-- ==== Sys2Proof/Word.lean ====
section
/-! DEFINITION. The word types of the hardware and the plain value types its registers are made of
(spec/00_scope.md R8, spec/10_state.md R20 to R35). Everything computed on them stands in Decode.lean and
under Machine/. -/

namespace Sys2Proof

/-- An instruction word: every instruction is one 32-bit word (R70). -/
abbrev Word := BitVec 32

/-- The smallest addressable unit of the instruction address space (R50). -/
abbrev Byte := BitVec 8

/-- An address. The spec's addresses are GPRLEN bits wide (R33, R50), 32 or 64; both are held in 64 bits, and all
address arithmetic is cut to GPRLEN bits where it is made (`Machine.wrapAddr`). -/
abbrev Addr := BitVec 64

/-- The number of a floating-point register, a 5-bit field (R20, R80). -/
abbrev FReg := BitVec 5

/-- The number of a condition code, a 3-bit field (R30, R80). -/
abbrev CcNum := BitVec 3

/-- The operand formats a register is read and written in (R100 to R104). Format W exists only as a member of PW. -/
inductive Fmt where
  | s    -- single, 32 bits (R100)
  | d    -- double, 64 bits (R101)
  | ps   -- paired single (R102)
  | pw   -- paired word (R104)
deriving DecidableEq, Repr, Inhabited

/-- The format names an instruction with an open `fmt` field can carry (R76): S, D or PS. -/
inductive InstrFmt where
  | s | d | ps
deriving DecidableEq, Repr, Inhabited

/-- The sixteen conditions of CABS.cond.fmt, in the order of the cond field (R78). -/
inductive Cond where
  | f | un | eq | ueq | olt | ult | ole | ule
  | sf | ngle | seq | ngl | lt | nge | le | ngt
deriving DecidableEq, Repr, Inhabited

/-- FCSR.RM, the current rounding mode (R25): 0 to nearest, ties to even; 1 toward zero; 2 toward plus infinity;
3 toward minus infinity. -/
inductive RoundingMode where
  | rn | rz | rp | rm
deriving DecidableEq, Repr, Inhabited

/-- A set of the five IEEE conditions, the width of FCSR.Enables and FCSR.Flags (R27, R28): Invalid Operation,
Division-by-zero, Overflow, Underflow, Inexact. -/
structure Conds where
  v : Bool
  z : Bool
  o : Bool
  u : Bool
  i : Bool
deriving DecidableEq, Repr, Inhabited

/-- FCSR.Cause, six bits: Unimplemented Operation and the five conditions (R26). -/
structure Cause where
  e : Bool
  conds : Conds
deriving DecidableEq, Repr, Inhabited

/-- The fields of the FCSR that the pages use, kept apart (R24, R25 to R30); `fcc[n]` is condition code n. -/
structure Fcsr where
  rm : RoundingMode
  fs : Bool
  cause : Cause
  enables : Conds
  flags : Conds
  fcc : Vector Bool 8
deriving DecidableEq, Repr

end Sys2Proof
end

