-- ==== Sys2Proof/Syntax.lean ====
section
/-! DEFINITION. The instructions: one constructor per row of spec/opcode_table.json (R3, R82), operands in assembler
order (R90). `Mnemonic` is the row's name alone, the key of the parameter IMPL(m) (R5). -/

namespace Sys2Proof

/-- The 68 rows of the opcode table by name. -/
inductive Mnemonic where
  | addrPs
  | bc1any2f
  | bc1any2t
  | bc1any4f
  | bc1any4t
  | cabsFS
  | cabsFD
  | cabsFPs
  | cabsUnS
  | cabsUnD
  | cabsUnPs
  | cabsEqS
  | cabsEqD
  | cabsEqPs
  | cabsUeqS
  | cabsUeqD
  | cabsUeqPs
  | cabsOltS
  | cabsOltD
  | cabsOltPs
  | cabsUltS
  | cabsUltD
  | cabsUltPs
  | cabsOleS
  | cabsOleD
  | cabsOlePs
  | cabsUleS
  | cabsUleD
  | cabsUlePs
  | cabsSfS
  | cabsSfD
  | cabsSfPs
  | cabsNgleS
  | cabsNgleD
  | cabsNglePs
  | cabsSeqS
  | cabsSeqD
  | cabsSeqPs
  | cabsNglS
  | cabsNglD
  | cabsNglPs
  | cabsLtS
  | cabsLtD
  | cabsLtPs
  | cabsNgeS
  | cabsNgeD
  | cabsNgePs
  | cabsLeS
  | cabsLeD
  | cabsLePs
  | cabsNgtS
  | cabsNgtD
  | cabsNgtPs
  | cvtPsPw
  | cvtPwPs
  | mulrPs
  | recip1S
  | recip1D
  | recip1Ps
  | recip2S
  | recip2D
  | recip2Ps
  | rsqrt1S
  | rsqrt1D
  | rsqrt1Ps
  | rsqrt2S
  | rsqrt2D
  | rsqrt2Ps
deriving DecidableEq, Repr

/-- The 68 instructions, each with its operand fields. -/
inductive Instr where
  | addrPs (fd fs ft : FReg)   -- ADDR.PS (R140)
  | bc1any2f (cc : CcNum) (offset : BitVec 16)   -- BC1ANY2F (R157)
  | bc1any2t (cc : CcNum) (offset : BitVec 16)   -- BC1ANY2T (R158)
  | bc1any4f (cc : CcNum) (offset : BitVec 16)   -- BC1ANY4F (R159)
  | bc1any4t (cc : CcNum) (offset : BitVec 16)   -- BC1ANY4T (R160)
  | cabsFS (cc : CcNum) (fs ft : FReg)   -- CABS.F.S (R174)
  | cabsFD (cc : CcNum) (fs ft : FReg)   -- CABS.F.D (R174)
  | cabsFPs (cc : CcNum) (fs ft : FReg)   -- CABS.F.PS (R174)
  | cabsUnS (cc : CcNum) (fs ft : FReg)   -- CABS.UN.S (R175)
  | cabsUnD (cc : CcNum) (fs ft : FReg)   -- CABS.UN.D (R175)
  | cabsUnPs (cc : CcNum) (fs ft : FReg)   -- CABS.UN.PS (R175)
  | cabsEqS (cc : CcNum) (fs ft : FReg)   -- CABS.EQ.S (R176)
  | cabsEqD (cc : CcNum) (fs ft : FReg)   -- CABS.EQ.D (R176)
  | cabsEqPs (cc : CcNum) (fs ft : FReg)   -- CABS.EQ.PS (R176)
  | cabsUeqS (cc : CcNum) (fs ft : FReg)   -- CABS.UEQ.S (R177)
  | cabsUeqD (cc : CcNum) (fs ft : FReg)   -- CABS.UEQ.D (R177)
  | cabsUeqPs (cc : CcNum) (fs ft : FReg)   -- CABS.UEQ.PS (R177)
  | cabsOltS (cc : CcNum) (fs ft : FReg)   -- CABS.OLT.S (R178)
  | cabsOltD (cc : CcNum) (fs ft : FReg)   -- CABS.OLT.D (R178)
  | cabsOltPs (cc : CcNum) (fs ft : FReg)   -- CABS.OLT.PS (R178)
  | cabsUltS (cc : CcNum) (fs ft : FReg)   -- CABS.ULT.S (R179)
  | cabsUltD (cc : CcNum) (fs ft : FReg)   -- CABS.ULT.D (R179)
  | cabsUltPs (cc : CcNum) (fs ft : FReg)   -- CABS.ULT.PS (R179)
  | cabsOleS (cc : CcNum) (fs ft : FReg)   -- CABS.OLE.S (R180)
  | cabsOleD (cc : CcNum) (fs ft : FReg)   -- CABS.OLE.D (R180)
  | cabsOlePs (cc : CcNum) (fs ft : FReg)   -- CABS.OLE.PS (R180)
  | cabsUleS (cc : CcNum) (fs ft : FReg)   -- CABS.ULE.S (R181)
  | cabsUleD (cc : CcNum) (fs ft : FReg)   -- CABS.ULE.D (R181)
  | cabsUlePs (cc : CcNum) (fs ft : FReg)   -- CABS.ULE.PS (R181)
  | cabsSfS (cc : CcNum) (fs ft : FReg)   -- CABS.SF.S (R182)
  | cabsSfD (cc : CcNum) (fs ft : FReg)   -- CABS.SF.D (R182)
  | cabsSfPs (cc : CcNum) (fs ft : FReg)   -- CABS.SF.PS (R182)
  | cabsNgleS (cc : CcNum) (fs ft : FReg)   -- CABS.NGLE.S (R183)
  | cabsNgleD (cc : CcNum) (fs ft : FReg)   -- CABS.NGLE.D (R183)
  | cabsNglePs (cc : CcNum) (fs ft : FReg)   -- CABS.NGLE.PS (R183)
  | cabsSeqS (cc : CcNum) (fs ft : FReg)   -- CABS.SEQ.S (R184)
  | cabsSeqD (cc : CcNum) (fs ft : FReg)   -- CABS.SEQ.D (R184)
  | cabsSeqPs (cc : CcNum) (fs ft : FReg)   -- CABS.SEQ.PS (R184)
  | cabsNglS (cc : CcNum) (fs ft : FReg)   -- CABS.NGL.S (R185)
  | cabsNglD (cc : CcNum) (fs ft : FReg)   -- CABS.NGL.D (R185)
  | cabsNglPs (cc : CcNum) (fs ft : FReg)   -- CABS.NGL.PS (R185)
  | cabsLtS (cc : CcNum) (fs ft : FReg)   -- CABS.LT.S (R186)
  | cabsLtD (cc : CcNum) (fs ft : FReg)   -- CABS.LT.D (R186)
  | cabsLtPs (cc : CcNum) (fs ft : FReg)   -- CABS.LT.PS (R186)
  | cabsNgeS (cc : CcNum) (fs ft : FReg)   -- CABS.NGE.S (R187)
  | cabsNgeD (cc : CcNum) (fs ft : FReg)   -- CABS.NGE.D (R187)
  | cabsNgePs (cc : CcNum) (fs ft : FReg)   -- CABS.NGE.PS (R187)
  | cabsLeS (cc : CcNum) (fs ft : FReg)   -- CABS.LE.S (R188)
  | cabsLeD (cc : CcNum) (fs ft : FReg)   -- CABS.LE.D (R188)
  | cabsLePs (cc : CcNum) (fs ft : FReg)   -- CABS.LE.PS (R188)
  | cabsNgtS (cc : CcNum) (fs ft : FReg)   -- CABS.NGT.S (R189)
  | cabsNgtD (cc : CcNum) (fs ft : FReg)   -- CABS.NGT.D (R189)
  | cabsNgtPs (cc : CcNum) (fs ft : FReg)   -- CABS.NGT.PS (R189)
  | cvtPsPw (fd fs : FReg)   -- CVT.PS.PW (R200)
  | cvtPwPs (fd fs : FReg)   -- CVT.PW.PS (R203)
  | mulrPs (fd fs ft : FReg)   -- MULR.PS (R215)
  | recip1S (fd fs : FReg)   -- RECIP1.S (R222)
  | recip1D (fd fs : FReg)   -- RECIP1.D (R223)
  | recip1Ps (fd fs : FReg)   -- RECIP1.PS (R224)
  | recip2S (fd fs ft : FReg)   -- RECIP2.S (R227)
  | recip2D (fd fs ft : FReg)   -- RECIP2.D (R228)
  | recip2Ps (fd fs ft : FReg)   -- RECIP2.PS (R229)
  | rsqrt1S (fd fs : FReg)   -- RSQRT1.S (R242)
  | rsqrt1D (fd fs : FReg)   -- RSQRT1.D (R243)
  | rsqrt1Ps (fd fs : FReg)   -- RSQRT1.PS (R244)
  | rsqrt2S (fd fs ft : FReg)   -- RSQRT2.S (R247)
  | rsqrt2D (fd fs ft : FReg)   -- RSQRT2.D (R248)
  | rsqrt2Ps (fd fs ft : FReg)   -- RSQRT2.PS (R249)
deriving DecidableEq, Repr

end Sys2Proof
end

