-- ==== Sys2Proof/Config.lean ====
section
/-! DEFINITION. What an implementation fixes (spec/00_scope.md R5) and the free values (R8, R10).

The parameters that are plain data stand in the structure `Config`, which `Machine.State` carries: `exec` has no other
argument through which R5's configuration record could reach it, and a statement about every state is a statement
about every configuration (log 8). The parameters that are functions are opaque constants: nothing in Lean can
evaluate them or prove a value of them; the facts the source does fix of them (R221, R241, R118, R271) are imposed where
they are called, in Machine/Approx.lean and Machine/Arith.lean (logs 10 to 12). -/

namespace Sys2Proof

/-- GPRLEN, the width of pc and of addresses: OPEN, 32 or 64 (R5, D1). -/
inductive GprLen where
  | w32 | w64
deriving DecidableEq, Repr

/-- Which instance of the open numeric functions runs (R221, D22): the implementation's own, of which only the
source's facts are known, or the spec's reference instance, "for executing the model only". -/
inductive Numerics where
  | implementation
  | reference
deriving DecidableEq, Repr

/-- What becomes of an exception: the run ends with the record of R275, the spec's own treatment (R9, R278, D8), or the
architecture's trap entry of R276 is taken, the extension that rule describes (log 13). -/
inductive Traps where
  | terminal
  | architectural
deriving DecidableEq, Repr

/-- What becomes of an instruction whose page calls its RESULT unpredictable (R10: the result, and where the page says so
the source operands, "may be anything"): it is refused, the spec's own treatment of all of them (R9, R21, R22), or the
result is drawn and the machine goes on, which spec/93_implementation_defined.md section 1.1 says a model could also do
(log 16). -/
inductive Unpredictable where
  | refuse
  | draw
deriving DecidableEq, Repr

/-- One argument of `unimplemented_op` (R5, R123): the instruction word, the operand bits as they were read (none for
a branch, R130), and the FCSR. -/
structure UnimplementedCase where
  word : Word
  operands : List (BitVec 64)
  fcsr : Fcsr
deriving DecidableEq, Repr

/-- The configuration record (R5). The predicates IMPL and unimplemented_op are given by the finite list of arguments
on which they answer "not implemented" and "unimplemented": their argument spaces are finite, so every predicate is
some list. -/
structure Config where
  gprLen : GprLen
  lacking : List Mnemonic                     -- the m with IMPL(m) = false (R263, D2)
  unimplemented : List UnimplementedCase      -- where unimplemented_op is true (R123, D3)
  nan2008 : Bool                              -- R108, D4
  qnanDefaultS : BitVec 32                    -- R109, a field of Numerics; read through Machine.qnanDefaultS (log 23)
  qnanDefaultD : BitVec 64                    -- R109, likewise
  tininessAfterRounding : Bool                -- R116
  cvtPsPwInexact : Bool                       -- R202, D6
  bigEndian : Bool                            -- R52, D7
  numerics : Numerics                         -- D22
  traps : Traps                               -- D8
  unpredictable : Unpredictable               -- D8, D9
  aseRevision : Option String                 -- R1, R5: no value in the source, read by no rule
deriving DecidableEq, Repr

/-- The defaults R5 gives; where it gives none (unimplemented_op, BIG_ENDIAN) the value log 7 or 8 names. -/
def Config.default : Config where
  gprLen := .w64
  lacking := []
  unimplemented := []
  nan2008 := false
  qnanDefaultS := 0x7FBFFFFF#32
  qnanDefaultD := 0x7FF7FFFFFFFFFFFF#64
  tininessAfterRounding := true
  cvtPsPwInexact := true
  bigEndian := false
  numerics := .implementation
  traps := .terminal
  unpredictable := .refuse
  aseRevision := none

/-- The arithmetic operation that asks for a NaN result (R118). -/
inductive ArithOp where
  | add | mul
deriving DecidableEq, Repr

/-- draw(32) of R8 and R125, one value for each number of a draw: DESIGN CHOICE of form, log 12. -/
opaque Config.draw : Nat → BitVec 32

/-- The conditions of an instruction whose result is unpredictable, one set for each number of a draw (R10, log 16). -/
opaque Config.drawConds : Nat → Conds

/-- nan_result of R118, before the one fact the spec assumes of it (that its value is a quiet NaN): log 11. -/
opaque Config.nanResult : ArithOp → BitVec 32 → BitVec 32 → BitVec 32

/-- flush of R120: FS, rounding mode, sign, and the tiny IEEE result with its conditions: log 11. -/
opaque Config.flush : Bool → RoundingMode → Bool → BitVec 32 → Conds → BitVec 32 × Conds

/-- recip1_S of R221, of which (a) and (b) are imposed where it is called: log 10. -/
opaque Config.recip1S : RoundingMode → Bool → BitVec 32 → BitVec 32 × Conds

/-- recip1_D of R221: log 10. -/
opaque Config.recip1D : RoundingMode → Bool → BitVec 64 → BitVec 64 × Conds

/-- recip2_S of R226: log 10. -/
opaque Config.recip2S : RoundingMode → Bool → BitVec 32 → BitVec 32 → BitVec 32 × Conds

/-- recip2_D of R226: log 10. -/
opaque Config.recip2D : RoundingMode → Bool → BitVec 64 → BitVec 64 → BitVec 64 × Conds

/-- rsqrt1_S of R241, of which (a) and (b) are imposed where it is called: log 10. -/
opaque Config.rsqrt1S : RoundingMode → Bool → BitVec 32 → BitVec 32 × Conds

/-- rsqrt1_D of R241: log 10. -/
opaque Config.rsqrt1D : RoundingMode → Bool → BitVec 64 → BitVec 64 × Conds

/-- rsqrt2_S of R246: log 10. -/
opaque Config.rsqrt2S : RoundingMode → Bool → BitVec 32 → BitVec 32 → BitVec 32 × Conds

/-- rsqrt2_D of R246: log 10. -/
opaque Config.rsqrt2D : RoundingMode → Bool → BitVec 64 → BitVec 64 → BitVec 64 × Conds

end Sys2Proof
end

