-- ==== Sys2Proof/WellFormed.lean ====
section
/-! DEFINITION. Which instructions are well formed. The register fields and the offset are free (R20, R79); the
condition-code number of a branch is a multiple of 2 or 4 (R84, R150), and that of a paired-single compare is even
(R85, R192). Every other operand value is legal. -/

namespace Sys2Proof

/-- The cc operand of BC1ANY2 and of CABS.cond.PS: "must align to 2" (R84), "must be even" (R85). -/
def CcNum.alignedTwo (cc : CcNum) : Bool := cc &&& 1#3 == 0#3

/-- The cc operand of BC1ANY4: "must align to 4" (R84). -/
def CcNum.alignedFour (cc : CcNum) : Bool := cc &&& 3#3 == 0#3

/-- The instruction's condition-code operand is aligned as its page asks. -/
def Instr.wellFormed : Instr → Bool
  | .addrPs _ _ _ => true
  | .bc1any2f cc _ => CcNum.alignedTwo cc
  | .bc1any2t cc _ => CcNum.alignedTwo cc
  | .bc1any4f cc _ => CcNum.alignedFour cc
  | .bc1any4t cc _ => CcNum.alignedFour cc
  | .cabsFS _ _ _ => true
  | .cabsFD _ _ _ => true
  | .cabsFPs cc _ _ => CcNum.alignedTwo cc
  | .cabsUnS _ _ _ => true
  | .cabsUnD _ _ _ => true
  | .cabsUnPs cc _ _ => CcNum.alignedTwo cc
  | .cabsEqS _ _ _ => true
  | .cabsEqD _ _ _ => true
  | .cabsEqPs cc _ _ => CcNum.alignedTwo cc
  | .cabsUeqS _ _ _ => true
  | .cabsUeqD _ _ _ => true
  | .cabsUeqPs cc _ _ => CcNum.alignedTwo cc
  | .cabsOltS _ _ _ => true
  | .cabsOltD _ _ _ => true
  | .cabsOltPs cc _ _ => CcNum.alignedTwo cc
  | .cabsUltS _ _ _ => true
  | .cabsUltD _ _ _ => true
  | .cabsUltPs cc _ _ => CcNum.alignedTwo cc
  | .cabsOleS _ _ _ => true
  | .cabsOleD _ _ _ => true
  | .cabsOlePs cc _ _ => CcNum.alignedTwo cc
  | .cabsUleS _ _ _ => true
  | .cabsUleD _ _ _ => true
  | .cabsUlePs cc _ _ => CcNum.alignedTwo cc
  | .cabsSfS _ _ _ => true
  | .cabsSfD _ _ _ => true
  | .cabsSfPs cc _ _ => CcNum.alignedTwo cc
  | .cabsNgleS _ _ _ => true
  | .cabsNgleD _ _ _ => true
  | .cabsNglePs cc _ _ => CcNum.alignedTwo cc
  | .cabsSeqS _ _ _ => true
  | .cabsSeqD _ _ _ => true
  | .cabsSeqPs cc _ _ => CcNum.alignedTwo cc
  | .cabsNglS _ _ _ => true
  | .cabsNglD _ _ _ => true
  | .cabsNglPs cc _ _ => CcNum.alignedTwo cc
  | .cabsLtS _ _ _ => true
  | .cabsLtD _ _ _ => true
  | .cabsLtPs cc _ _ => CcNum.alignedTwo cc
  | .cabsNgeS _ _ _ => true
  | .cabsNgeD _ _ _ => true
  | .cabsNgePs cc _ _ => CcNum.alignedTwo cc
  | .cabsLeS _ _ _ => true
  | .cabsLeD _ _ _ => true
  | .cabsLePs cc _ _ => CcNum.alignedTwo cc
  | .cabsNgtS _ _ _ => true
  | .cabsNgtD _ _ _ => true
  | .cabsNgtPs cc _ _ => CcNum.alignedTwo cc
  | .cvtPsPw _ _ => true
  | .cvtPwPs _ _ => true
  | .mulrPs _ _ _ => true
  | .recip1S _ _ => true
  | .recip1D _ _ => true
  | .recip1Ps _ _ => true
  | .recip2S _ _ _ => true
  | .recip2D _ _ _ => true
  | .recip2Ps _ _ _ => true
  | .rsqrt1S _ _ => true
  | .rsqrt1D _ _ => true
  | .rsqrt1Ps _ _ => true
  | .rsqrt2S _ _ _ => true
  | .rsqrt2D _ _ _ => true
  | .rsqrt2Ps _ _ _ => true

end Sys2Proof
end

