-- ==== Sys2Proof/Decode.lean ====
section
/-! DEFINITION. The decoder of R81, total on 32-bit words and on byte strings, rejecting by the verdicts of R83 to R88;
the encoder, from the formats FR3, FR2, FB, FC (R71 to R74) and the field values of R76 to R78; and the mask and match
words of R82. The codes of the formats S and D and the cond names are the spec's own general knowledge (R76, R78; log
17). -/

namespace Sys2Proof

/-- Why a word is no instruction of the table (R81): the verdicts besides the 68 mnemonics. -/
inductive Reject where
  | notInScope    -- every word R81 does not decode (R86, R87, R88)
  | reservedNd    -- a branch word with bit 17 (nd) set (R83)
  | ccAlignment   -- a branch or a paired-single compare with a misaligned cc (R84, R85)
deriving DecidableEq, Repr

/-- The decoder's verdict on a word (R81). -/
inductive Verdict where
  | instr (i : Instr)
  | reject (r : Reject)
deriving DecidableEq, Repr

/-- The major opcode of coprocessor 1, bits 31..26 of all 68 encodings (R75). -/
def cop1 : BitVec 6 := 0b010001#6

/-- The word's major opcode is COP1 (R75, R262). -/
def isCop1 (w : Word) : Bool := w.extractLsb' 26 6 == cop1

/-- The fmt codes of S, D and PS (R76). -/
def InstrFmt.code : InstrFmt → BitVec 5
  | .s => 0b10000#5
  | .d => 0b10001#5
  | .ps => 0b10110#5

/-- The fmt code of the source format PW (R76). -/
def pwCode : BitVec 5 := 0b10100#5

/-- The cond field of a condition (R78). -/
def Cond.bits : Cond → BitVec 4
  | .f => 0#4
  | .un => 1#4
  | .eq => 2#4
  | .ueq => 3#4
  | .olt => 4#4
  | .ult => 5#4
  | .ole => 6#4
  | .ule => 7#4
  | .sf => 8#4
  | .ngle => 9#4
  | .seq => 10#4
  | .ngl => 11#4
  | .lt => 12#4
  | .nge => 13#4
  | .le => 14#4
  | .ngt => 15#4

/-- The condition of a cond field (R78). -/
def Cond.ofBits (b : BitVec 4) : Cond :=
  match b.toNat with
  | 0 => .f
  | 1 => .un
  | 2 => .eq
  | 3 => .ueq
  | 4 => .olt
  | 5 => .ult
  | 6 => .ole
  | 7 => .ule
  | 8 => .sf
  | 9 => .ngle
  | 10 => .seq
  | 11 => .ngl
  | 12 => .lt
  | 13 => .nge
  | 14 => .le
  | _ => .ngt

/-- The compare instruction of a condition and a format (R81, R82): 48 constructors. -/
def cabsInstr : InstrFmt → Cond → CcNum → FReg → FReg → Instr
  | .s, .f => .cabsFS
  | .d, .f => .cabsFD
  | .ps, .f => .cabsFPs
  | .s, .un => .cabsUnS
  | .d, .un => .cabsUnD
  | .ps, .un => .cabsUnPs
  | .s, .eq => .cabsEqS
  | .d, .eq => .cabsEqD
  | .ps, .eq => .cabsEqPs
  | .s, .ueq => .cabsUeqS
  | .d, .ueq => .cabsUeqD
  | .ps, .ueq => .cabsUeqPs
  | .s, .olt => .cabsOltS
  | .d, .olt => .cabsOltD
  | .ps, .olt => .cabsOltPs
  | .s, .ult => .cabsUltS
  | .d, .ult => .cabsUltD
  | .ps, .ult => .cabsUltPs
  | .s, .ole => .cabsOleS
  | .d, .ole => .cabsOleD
  | .ps, .ole => .cabsOlePs
  | .s, .ule => .cabsUleS
  | .d, .ule => .cabsUleD
  | .ps, .ule => .cabsUlePs
  | .s, .sf => .cabsSfS
  | .d, .sf => .cabsSfD
  | .ps, .sf => .cabsSfPs
  | .s, .ngle => .cabsNgleS
  | .d, .ngle => .cabsNgleD
  | .ps, .ngle => .cabsNglePs
  | .s, .seq => .cabsSeqS
  | .d, .seq => .cabsSeqD
  | .ps, .seq => .cabsSeqPs
  | .s, .ngl => .cabsNglS
  | .d, .ngl => .cabsNglD
  | .ps, .ngl => .cabsNglPs
  | .s, .lt => .cabsLtS
  | .d, .lt => .cabsLtD
  | .ps, .lt => .cabsLtPs
  | .s, .nge => .cabsNgeS
  | .d, .nge => .cabsNgeD
  | .ps, .nge => .cabsNgePs
  | .s, .le => .cabsLeS
  | .d, .le => .cabsLeD
  | .ps, .le => .cabsLePs
  | .s, .ngt => .cabsNgtS
  | .d, .ngt => .cabsNgtD
  | .ps, .ngt => .cabsNgtPs

/-- RECIP1.fmt of a format (R81). -/
def recip1Instr : InstrFmt → FReg → FReg → Instr
  | .s => .recip1S
  | .d => .recip1D
  | .ps => .recip1Ps

/-- RSQRT1.fmt of a format (R81). -/
def rsqrt1Instr : InstrFmt → FReg → FReg → Instr
  | .s => .rsqrt1S
  | .d => .rsqrt1D
  | .ps => .rsqrt1Ps

/-- RECIP2.fmt of a format (R81). -/
def recip2Instr : InstrFmt → FReg → FReg → FReg → Instr
  | .s => .recip2S
  | .d => .recip2D
  | .ps => .recip2Ps

/-- RSQRT2.fmt of a format (R81). -/
def rsqrt2Instr : InstrFmt → FReg → FReg → FReg → Instr
  | .s => .rsqrt2S
  | .d => .rsqrt2D
  | .ps => .rsqrt2Ps

/-- Bits 25..21 01001 and 01010: the branch words, format FB (R73, R81). `four` tells BC1ANY4 from BC1ANY2. -/
def decodeBranch (four : Bool) (w : Word) : Verdict :=
  let cc : CcNum := w.extractLsb' 18 3
  let offset : BitVec 16 := w.extractLsb' 0 16
  let tf := w.extractLsb' 16 1 == 1#1
  if w.extractLsb' 17 1 == 1#1 then .reject .reservedNd
  else if four then
    if !cc.alignedFour then .reject .ccAlignment
    else if tf then .instr (.bc1any4t cc offset) else .instr (.bc1any4f cc offset)
  else
    if !cc.alignedTwo then .reject .ccAlignment
    else if tf then .instr (.bc1any2t cc offset) else .instr (.bc1any2f cc offset)

/-- Format FC, told from FR2 and FR3 by bits 5..4 = 11 (R74, R81). -/
def decodeCompare (f : InstrFmt) (w : Word) : Verdict :=
  let cc : CcNum := w.extractLsb' 8 3
  if w.extractLsb' 6 2 != 0b01#2 then .reject .notInScope
  else if f == .ps && !cc.alignedTwo then .reject .ccAlignment
  else .instr (cabsInstr f (Cond.ofBits (w.extractLsb' 0 4)) cc (w.extractLsb' 11 5) (w.extractLsb' 16 5))

/-- The words whose fmt cell is S, D or PS (R77, R81). -/
def decodeFmt (f : InstrFmt) (w : Word) : Verdict :=
  let ft : FReg := w.extractLsb' 16 5
  let fs : FReg := w.extractLsb' 11 5
  let fd : FReg := w.extractLsb' 6 5
  let fn : BitVec 6 := w.extractLsb' 0 6
  if w.extractLsb' 4 2 == 0b11#2 then decodeCompare f w
  else if fn == 0b011100#6 then .instr (recip2Instr f fd fs ft)
  else if fn == 0b011111#6 then .instr (rsqrt2Instr f fd fs ft)
  else if fn == 0b011101#6 && ft == 0#5 then .instr (recip1Instr f fd fs)
  else if fn == 0b011110#6 && ft == 0#5 then .instr (rsqrt1Instr f fd fs)
  else if fn == 0b011000#6 && f == .ps then .instr (.addrPs fd fs ft)
  else if fn == 0b011010#6 && f == .ps then .instr (.mulrPs fd fs ft)
  else if fn == 0b100100#6 && f == .ps && ft == 0#5 then .instr (.cvtPwPs fd fs)
  else .reject .notInScope

/-- The words whose fmt cell is PW (R77, R81). -/
def decodePw (w : Word) : Verdict :=
  if w.extractLsb' 0 6 == 0b100110#6 && w.extractLsb' 16 5 == 0#5 then
    .instr (.cvtPsPw (w.extractLsb' 6 5) (w.extractLsb' 11 5))
  else .reject .notInScope

/-- The decoder of R81. -/
def decode (w : Word) : Verdict :=
  let sub : BitVec 5 := w.extractLsb' 21 5
  if !isCop1 w then .reject .notInScope
  else if sub == 0b01001#5 then decodeBranch false w
  else if sub == 0b01010#5 then decodeBranch true w
  else if sub == InstrFmt.code .s then decodeFmt .s w
  else if sub == InstrFmt.code .d then decodeFmt .d w
  else if sub == InstrFmt.code .ps then decodeFmt .ps w
  else if sub == pwCode then decodePw w
  else .reject .notInScope

/-- The word of four bytes in address order, in either byte order (R52). -/
def wordOfBytes (bigEndian : Bool) (b0 b1 b2 b3 : Byte) : Word :=
  if bigEndian then b0 ++ b1 ++ b2 ++ b3 else b3 ++ b2 ++ b1 ++ b0

/-- The four bytes of a word in address order, in either byte order (R52). -/
def bytesOfWord (bigEndian : Bool) (w : Word) : List Byte :=
  let little := [w.extractLsb' 0 8, w.extractLsb' 8 8, w.extractLsb' 16 8, w.extractLsb' 24 8]
  if bigEndian then little.reverse else little

/-- The decoder on bytes as they stand in memory: fewer than four bytes are no instruction (R70). Bytes after the
fourth belong to the next instruction. -/
def decodeBytes (bigEndian : Bool) : List Byte → Verdict
  | b0 :: b1 :: b2 :: b3 :: _ => decode (wordOfBytes bigEndian b0 b1 b2 b3)
  | _ => .reject .notInScope

/-- Format FR3 (R71). -/
def encodeFr3 (fmt : BitVec 5) (ft fs fd : FReg) (fn : BitVec 6) : Word :=
  cop1 ++ fmt ++ ft ++ fs ++ fd ++ fn

/-- Format FR2 (R72): FR3 with the ft cell fixed to zero. -/
def encodeFr2 (fmt : BitVec 5) (fs fd : FReg) (fn : BitVec 6) : Word :=
  encodeFr3 fmt 0#5 fs fd fn

/-- Format FB (R73); the nd cell is zero. -/
def encodeFb (sub : BitVec 5) (cc : CcNum) (tf : BitVec 1) (offset : BitVec 16) : Word :=
  cop1 ++ sub ++ cc ++ 0#1 ++ tf ++ offset

/-- Format FC (R74); bits 7..4 are 0111. -/
def encodeFc (fmt : BitVec 5) (ft fs : FReg) (cc : CcNum) (cond : BitVec 4) : Word :=
  cop1 ++ fmt ++ ft ++ fs ++ cc ++ 0b0111#4 ++ cond

/-- The word of an instruction (R71 to R78). -/
def encode : Instr → Word
  | .addrPs fd fs ft => encodeFr3 (InstrFmt.code .ps) ft fs fd 0b011000#6
  | .bc1any2f cc offset => encodeFb 0b01001#5 cc 0#1 offset
  | .bc1any2t cc offset => encodeFb 0b01001#5 cc 1#1 offset
  | .bc1any4f cc offset => encodeFb 0b01010#5 cc 0#1 offset
  | .bc1any4t cc offset => encodeFb 0b01010#5 cc 1#1 offset
  | .cabsFS cc fs ft => encodeFc (InstrFmt.code .s) ft fs cc (Cond.bits .f)
  | .cabsFD cc fs ft => encodeFc (InstrFmt.code .d) ft fs cc (Cond.bits .f)
  | .cabsFPs cc fs ft => encodeFc (InstrFmt.code .ps) ft fs cc (Cond.bits .f)
  | .cabsUnS cc fs ft => encodeFc (InstrFmt.code .s) ft fs cc (Cond.bits .un)
  | .cabsUnD cc fs ft => encodeFc (InstrFmt.code .d) ft fs cc (Cond.bits .un)
  | .cabsUnPs cc fs ft => encodeFc (InstrFmt.code .ps) ft fs cc (Cond.bits .un)
  | .cabsEqS cc fs ft => encodeFc (InstrFmt.code .s) ft fs cc (Cond.bits .eq)
  | .cabsEqD cc fs ft => encodeFc (InstrFmt.code .d) ft fs cc (Cond.bits .eq)
  | .cabsEqPs cc fs ft => encodeFc (InstrFmt.code .ps) ft fs cc (Cond.bits .eq)
  | .cabsUeqS cc fs ft => encodeFc (InstrFmt.code .s) ft fs cc (Cond.bits .ueq)
  | .cabsUeqD cc fs ft => encodeFc (InstrFmt.code .d) ft fs cc (Cond.bits .ueq)
  | .cabsUeqPs cc fs ft => encodeFc (InstrFmt.code .ps) ft fs cc (Cond.bits .ueq)
  | .cabsOltS cc fs ft => encodeFc (InstrFmt.code .s) ft fs cc (Cond.bits .olt)
  | .cabsOltD cc fs ft => encodeFc (InstrFmt.code .d) ft fs cc (Cond.bits .olt)
  | .cabsOltPs cc fs ft => encodeFc (InstrFmt.code .ps) ft fs cc (Cond.bits .olt)
  | .cabsUltS cc fs ft => encodeFc (InstrFmt.code .s) ft fs cc (Cond.bits .ult)
  | .cabsUltD cc fs ft => encodeFc (InstrFmt.code .d) ft fs cc (Cond.bits .ult)
  | .cabsUltPs cc fs ft => encodeFc (InstrFmt.code .ps) ft fs cc (Cond.bits .ult)
  | .cabsOleS cc fs ft => encodeFc (InstrFmt.code .s) ft fs cc (Cond.bits .ole)
  | .cabsOleD cc fs ft => encodeFc (InstrFmt.code .d) ft fs cc (Cond.bits .ole)
  | .cabsOlePs cc fs ft => encodeFc (InstrFmt.code .ps) ft fs cc (Cond.bits .ole)
  | .cabsUleS cc fs ft => encodeFc (InstrFmt.code .s) ft fs cc (Cond.bits .ule)
  | .cabsUleD cc fs ft => encodeFc (InstrFmt.code .d) ft fs cc (Cond.bits .ule)
  | .cabsUlePs cc fs ft => encodeFc (InstrFmt.code .ps) ft fs cc (Cond.bits .ule)
  | .cabsSfS cc fs ft => encodeFc (InstrFmt.code .s) ft fs cc (Cond.bits .sf)
  | .cabsSfD cc fs ft => encodeFc (InstrFmt.code .d) ft fs cc (Cond.bits .sf)
  | .cabsSfPs cc fs ft => encodeFc (InstrFmt.code .ps) ft fs cc (Cond.bits .sf)
  | .cabsNgleS cc fs ft => encodeFc (InstrFmt.code .s) ft fs cc (Cond.bits .ngle)
  | .cabsNgleD cc fs ft => encodeFc (InstrFmt.code .d) ft fs cc (Cond.bits .ngle)
  | .cabsNglePs cc fs ft => encodeFc (InstrFmt.code .ps) ft fs cc (Cond.bits .ngle)
  | .cabsSeqS cc fs ft => encodeFc (InstrFmt.code .s) ft fs cc (Cond.bits .seq)
  | .cabsSeqD cc fs ft => encodeFc (InstrFmt.code .d) ft fs cc (Cond.bits .seq)
  | .cabsSeqPs cc fs ft => encodeFc (InstrFmt.code .ps) ft fs cc (Cond.bits .seq)
  | .cabsNglS cc fs ft => encodeFc (InstrFmt.code .s) ft fs cc (Cond.bits .ngl)
  | .cabsNglD cc fs ft => encodeFc (InstrFmt.code .d) ft fs cc (Cond.bits .ngl)
  | .cabsNglPs cc fs ft => encodeFc (InstrFmt.code .ps) ft fs cc (Cond.bits .ngl)
  | .cabsLtS cc fs ft => encodeFc (InstrFmt.code .s) ft fs cc (Cond.bits .lt)
  | .cabsLtD cc fs ft => encodeFc (InstrFmt.code .d) ft fs cc (Cond.bits .lt)
  | .cabsLtPs cc fs ft => encodeFc (InstrFmt.code .ps) ft fs cc (Cond.bits .lt)
  | .cabsNgeS cc fs ft => encodeFc (InstrFmt.code .s) ft fs cc (Cond.bits .nge)
  | .cabsNgeD cc fs ft => encodeFc (InstrFmt.code .d) ft fs cc (Cond.bits .nge)
  | .cabsNgePs cc fs ft => encodeFc (InstrFmt.code .ps) ft fs cc (Cond.bits .nge)
  | .cabsLeS cc fs ft => encodeFc (InstrFmt.code .s) ft fs cc (Cond.bits .le)
  | .cabsLeD cc fs ft => encodeFc (InstrFmt.code .d) ft fs cc (Cond.bits .le)
  | .cabsLePs cc fs ft => encodeFc (InstrFmt.code .ps) ft fs cc (Cond.bits .le)
  | .cabsNgtS cc fs ft => encodeFc (InstrFmt.code .s) ft fs cc (Cond.bits .ngt)
  | .cabsNgtD cc fs ft => encodeFc (InstrFmt.code .d) ft fs cc (Cond.bits .ngt)
  | .cabsNgtPs cc fs ft => encodeFc (InstrFmt.code .ps) ft fs cc (Cond.bits .ngt)
  | .cvtPsPw fd fs => encodeFr2 pwCode fs fd 0b100110#6
  | .cvtPwPs fd fs => encodeFr2 (InstrFmt.code .ps) fs fd 0b100100#6
  | .mulrPs fd fs ft => encodeFr3 (InstrFmt.code .ps) ft fs fd 0b011010#6
  | .recip1S fd fs => encodeFr2 (InstrFmt.code .s) fs fd 0b011101#6
  | .recip1D fd fs => encodeFr2 (InstrFmt.code .d) fs fd 0b011101#6
  | .recip1Ps fd fs => encodeFr2 (InstrFmt.code .ps) fs fd 0b011101#6
  | .recip2S fd fs ft => encodeFr3 (InstrFmt.code .s) ft fs fd 0b011100#6
  | .recip2D fd fs ft => encodeFr3 (InstrFmt.code .d) ft fs fd 0b011100#6
  | .recip2Ps fd fs ft => encodeFr3 (InstrFmt.code .ps) ft fs fd 0b011100#6
  | .rsqrt1S fd fs => encodeFr2 (InstrFmt.code .s) fs fd 0b011110#6
  | .rsqrt1D fd fs => encodeFr2 (InstrFmt.code .d) fs fd 0b011110#6
  | .rsqrt1Ps fd fs => encodeFr2 (InstrFmt.code .ps) fs fd 0b011110#6
  | .rsqrt2S fd fs ft => encodeFr3 (InstrFmt.code .s) ft fs fd 0b011111#6
  | .rsqrt2D fd fs ft => encodeFr3 (InstrFmt.code .d) ft fs fd 0b011111#6
  | .rsqrt2Ps fd fs ft => encodeFr3 (InstrFmt.code .ps) ft fs fd 0b011111#6

/-- The row of the opcode table an instruction belongs to. -/
def Instr.mnemonic : Instr → Mnemonic
  | .addrPs _ _ _ => .addrPs
  | .bc1any2f _ _ => .bc1any2f
  | .bc1any2t _ _ => .bc1any2t
  | .bc1any4f _ _ => .bc1any4f
  | .bc1any4t _ _ => .bc1any4t
  | .cabsFS _ _ _ => .cabsFS
  | .cabsFD _ _ _ => .cabsFD
  | .cabsFPs _ _ _ => .cabsFPs
  | .cabsUnS _ _ _ => .cabsUnS
  | .cabsUnD _ _ _ => .cabsUnD
  | .cabsUnPs _ _ _ => .cabsUnPs
  | .cabsEqS _ _ _ => .cabsEqS
  | .cabsEqD _ _ _ => .cabsEqD
  | .cabsEqPs _ _ _ => .cabsEqPs
  | .cabsUeqS _ _ _ => .cabsUeqS
  | .cabsUeqD _ _ _ => .cabsUeqD
  | .cabsUeqPs _ _ _ => .cabsUeqPs
  | .cabsOltS _ _ _ => .cabsOltS
  | .cabsOltD _ _ _ => .cabsOltD
  | .cabsOltPs _ _ _ => .cabsOltPs
  | .cabsUltS _ _ _ => .cabsUltS
  | .cabsUltD _ _ _ => .cabsUltD
  | .cabsUltPs _ _ _ => .cabsUltPs
  | .cabsOleS _ _ _ => .cabsOleS
  | .cabsOleD _ _ _ => .cabsOleD
  | .cabsOlePs _ _ _ => .cabsOlePs
  | .cabsUleS _ _ _ => .cabsUleS
  | .cabsUleD _ _ _ => .cabsUleD
  | .cabsUlePs _ _ _ => .cabsUlePs
  | .cabsSfS _ _ _ => .cabsSfS
  | .cabsSfD _ _ _ => .cabsSfD
  | .cabsSfPs _ _ _ => .cabsSfPs
  | .cabsNgleS _ _ _ => .cabsNgleS
  | .cabsNgleD _ _ _ => .cabsNgleD
  | .cabsNglePs _ _ _ => .cabsNglePs
  | .cabsSeqS _ _ _ => .cabsSeqS
  | .cabsSeqD _ _ _ => .cabsSeqD
  | .cabsSeqPs _ _ _ => .cabsSeqPs
  | .cabsNglS _ _ _ => .cabsNglS
  | .cabsNglD _ _ _ => .cabsNglD
  | .cabsNglPs _ _ _ => .cabsNglPs
  | .cabsLtS _ _ _ => .cabsLtS
  | .cabsLtD _ _ _ => .cabsLtD
  | .cabsLtPs _ _ _ => .cabsLtPs
  | .cabsNgeS _ _ _ => .cabsNgeS
  | .cabsNgeD _ _ _ => .cabsNgeD
  | .cabsNgePs _ _ _ => .cabsNgePs
  | .cabsLeS _ _ _ => .cabsLeS
  | .cabsLeD _ _ _ => .cabsLeD
  | .cabsLePs _ _ _ => .cabsLePs
  | .cabsNgtS _ _ _ => .cabsNgtS
  | .cabsNgtD _ _ _ => .cabsNgtD
  | .cabsNgtPs _ _ _ => .cabsNgtPs
  | .cvtPsPw _ _ => .cvtPsPw
  | .cvtPwPs _ _ => .cvtPwPs
  | .mulrPs _ _ _ => .mulrPs
  | .recip1S _ _ => .recip1S
  | .recip1D _ _ => .recip1D
  | .recip1Ps _ _ => .recip1Ps
  | .recip2S _ _ _ => .recip2S
  | .recip2D _ _ _ => .recip2D
  | .recip2Ps _ _ _ => .recip2Ps
  | .rsqrt1S _ _ => .rsqrt1S
  | .rsqrt1D _ _ => .rsqrt1D
  | .rsqrt1Ps _ _ => .rsqrt1Ps
  | .rsqrt2S _ _ _ => .rsqrt2S
  | .rsqrt2D _ _ _ => .rsqrt2D
  | .rsqrt2Ps _ _ _ => .rsqrt2Ps

/-- The mask word of a row (R82): the bits the row fixes. -/
def Mnemonic.mask : Mnemonic → Word
  | .addrPs => 0xFFE0003F#32
  | .bc1any2f => 0xFFE70000#32
  | .bc1any2t => 0xFFE70000#32
  | .bc1any4f => 0xFFEF0000#32
  | .bc1any4t => 0xFFEF0000#32
  | .cabsFS => 0xFFE000FF#32
  | .cabsFD => 0xFFE000FF#32
  | .cabsFPs => 0xFFE000FF#32
  | .cabsUnS => 0xFFE000FF#32
  | .cabsUnD => 0xFFE000FF#32
  | .cabsUnPs => 0xFFE000FF#32
  | .cabsEqS => 0xFFE000FF#32
  | .cabsEqD => 0xFFE000FF#32
  | .cabsEqPs => 0xFFE000FF#32
  | .cabsUeqS => 0xFFE000FF#32
  | .cabsUeqD => 0xFFE000FF#32
  | .cabsUeqPs => 0xFFE000FF#32
  | .cabsOltS => 0xFFE000FF#32
  | .cabsOltD => 0xFFE000FF#32
  | .cabsOltPs => 0xFFE000FF#32
  | .cabsUltS => 0xFFE000FF#32
  | .cabsUltD => 0xFFE000FF#32
  | .cabsUltPs => 0xFFE000FF#32
  | .cabsOleS => 0xFFE000FF#32
  | .cabsOleD => 0xFFE000FF#32
  | .cabsOlePs => 0xFFE000FF#32
  | .cabsUleS => 0xFFE000FF#32
  | .cabsUleD => 0xFFE000FF#32
  | .cabsUlePs => 0xFFE000FF#32
  | .cabsSfS => 0xFFE000FF#32
  | .cabsSfD => 0xFFE000FF#32
  | .cabsSfPs => 0xFFE000FF#32
  | .cabsNgleS => 0xFFE000FF#32
  | .cabsNgleD => 0xFFE000FF#32
  | .cabsNglePs => 0xFFE000FF#32
  | .cabsSeqS => 0xFFE000FF#32
  | .cabsSeqD => 0xFFE000FF#32
  | .cabsSeqPs => 0xFFE000FF#32
  | .cabsNglS => 0xFFE000FF#32
  | .cabsNglD => 0xFFE000FF#32
  | .cabsNglPs => 0xFFE000FF#32
  | .cabsLtS => 0xFFE000FF#32
  | .cabsLtD => 0xFFE000FF#32
  | .cabsLtPs => 0xFFE000FF#32
  | .cabsNgeS => 0xFFE000FF#32
  | .cabsNgeD => 0xFFE000FF#32
  | .cabsNgePs => 0xFFE000FF#32
  | .cabsLeS => 0xFFE000FF#32
  | .cabsLeD => 0xFFE000FF#32
  | .cabsLePs => 0xFFE000FF#32
  | .cabsNgtS => 0xFFE000FF#32
  | .cabsNgtD => 0xFFE000FF#32
  | .cabsNgtPs => 0xFFE000FF#32
  | .cvtPsPw => 0xFFFF003F#32
  | .cvtPwPs => 0xFFFF003F#32
  | .mulrPs => 0xFFE0003F#32
  | .recip1S => 0xFFFF003F#32
  | .recip1D => 0xFFFF003F#32
  | .recip1Ps => 0xFFFF003F#32
  | .recip2S => 0xFFE0003F#32
  | .recip2D => 0xFFE0003F#32
  | .recip2Ps => 0xFFE0003F#32
  | .rsqrt1S => 0xFFFF003F#32
  | .rsqrt1D => 0xFFFF003F#32
  | .rsqrt1Ps => 0xFFFF003F#32
  | .rsqrt2S => 0xFFE0003F#32
  | .rsqrt2D => 0xFFE0003F#32
  | .rsqrt2Ps => 0xFFE0003F#32

/-- The match word of a row (R82): the values of the fixed bits. -/
def Mnemonic.matchWord : Mnemonic → Word
  | .addrPs => 0x46C00018#32
  | .bc1any2f => 0x45200000#32
  | .bc1any2t => 0x45210000#32
  | .bc1any4f => 0x45400000#32
  | .bc1any4t => 0x45410000#32
  | .cabsFS => 0x46000070#32
  | .cabsFD => 0x46200070#32
  | .cabsFPs => 0x46C00070#32
  | .cabsUnS => 0x46000071#32
  | .cabsUnD => 0x46200071#32
  | .cabsUnPs => 0x46C00071#32
  | .cabsEqS => 0x46000072#32
  | .cabsEqD => 0x46200072#32
  | .cabsEqPs => 0x46C00072#32
  | .cabsUeqS => 0x46000073#32
  | .cabsUeqD => 0x46200073#32
  | .cabsUeqPs => 0x46C00073#32
  | .cabsOltS => 0x46000074#32
  | .cabsOltD => 0x46200074#32
  | .cabsOltPs => 0x46C00074#32
  | .cabsUltS => 0x46000075#32
  | .cabsUltD => 0x46200075#32
  | .cabsUltPs => 0x46C00075#32
  | .cabsOleS => 0x46000076#32
  | .cabsOleD => 0x46200076#32
  | .cabsOlePs => 0x46C00076#32
  | .cabsUleS => 0x46000077#32
  | .cabsUleD => 0x46200077#32
  | .cabsUlePs => 0x46C00077#32
  | .cabsSfS => 0x46000078#32
  | .cabsSfD => 0x46200078#32
  | .cabsSfPs => 0x46C00078#32
  | .cabsNgleS => 0x46000079#32
  | .cabsNgleD => 0x46200079#32
  | .cabsNglePs => 0x46C00079#32
  | .cabsSeqS => 0x4600007A#32
  | .cabsSeqD => 0x4620007A#32
  | .cabsSeqPs => 0x46C0007A#32
  | .cabsNglS => 0x4600007B#32
  | .cabsNglD => 0x4620007B#32
  | .cabsNglPs => 0x46C0007B#32
  | .cabsLtS => 0x4600007C#32
  | .cabsLtD => 0x4620007C#32
  | .cabsLtPs => 0x46C0007C#32
  | .cabsNgeS => 0x4600007D#32
  | .cabsNgeD => 0x4620007D#32
  | .cabsNgePs => 0x46C0007D#32
  | .cabsLeS => 0x4600007E#32
  | .cabsLeD => 0x4620007E#32
  | .cabsLePs => 0x46C0007E#32
  | .cabsNgtS => 0x4600007F#32
  | .cabsNgtD => 0x4620007F#32
  | .cabsNgtPs => 0x46C0007F#32
  | .cvtPsPw => 0x46800026#32
  | .cvtPwPs => 0x46C00024#32
  | .mulrPs => 0x46C0001A#32
  | .recip1S => 0x4600001D#32
  | .recip1D => 0x4620001D#32
  | .recip1Ps => 0x46C0001D#32
  | .recip2S => 0x4600001C#32
  | .recip2D => 0x4620001C#32
  | .recip2Ps => 0x46C0001C#32
  | .rsqrt1S => 0x4600001E#32
  | .rsqrt1D => 0x4620001E#32
  | .rsqrt1Ps => 0x46C0001E#32
  | .rsqrt2S => 0x4600001F#32
  | .rsqrt2D => 0x4620001F#32
  | .rsqrt2Ps => 0x46C0001F#32

/-- The word fits the row's mask and match (R82). -/
def Mnemonic.fits (m : Mnemonic) (w : Word) : Bool := w &&& m.mask == m.matchWord

/-- The instruction the decoder reads from an instruction whose low `nbits` bits are `w`, the bits above them zero: the
word is laid out as bytes and given to `decodeBytes`. Bit 0 is the least significant bit of the word (R6), in either
byte order. -/
def decodeTableWord (nbits w : Nat) : Option Instr :=
  match decodeBytes false (bytesOfWord false (BitVec.ofNat 32 (w % 2 ^ nbits))) with
  | .instr i => some i
  | .reject _ => none

end Sys2Proof
end

