-- ==== Sys2Proof/Machine/State.lean ====
section
/-! DEFINITION. The state of the machine as plain data (spec/10_state.md, with the parameters R39 and R300 name), the
reasons a step can stop, and the state after reset. Every update of it stands in Machine/Ops.lean. -/

namespace Sys2Proof.Machine

/-- The format tag of a floating-point register (R21): what kind of value it holds. `raw64` and `raw32` are the
uninterpreted values only a launch state can give; `none` is a register nothing has written, whose reading R21
refuses. -/
inductive Tag where
  | s | d | ps | pw
  | raw64
  | raw32
  | none
  /-- The MODEL's own tag, no tag of R21: the value every register holds in `State.reset`, named by log 1 (DESIGN
  CHOICE) and readable in every format. No instruction writes it. -/
  | reset
deriving DecidableEq, Repr, Inhabited

/-- A floating-point register: 64 bits and a tag (R20, R21). PU is bits 63..32, PL bits 31..0 (R23). -/
structure Fpr where
  tag : Tag
  bits : BitVec 64
deriving DecidableEq, Repr, Inhabited

/-- Memory as (address, byte) pairs with strictly rising addresses: the program text of R50 in bytes (R52). An address
that is not listed holds no value (R55). -/
abbrev Memory := List Host.Cell

/-- The canonical form: addresses strictly rising. An unlisted address reads as no value, so no listed byte can equal
what an unlisted one reads as. -/
abbrev Memory.wf (m : Memory) : Prop := m.Pairwise (fun a b => a.1 < b.1)

/-- The CP0 registers that the architecture's trap entry writes (R276; R38 keeps them out of the spec's own state).
Only the extension of log 13 reads or writes them. -/
structure Cp0 where
  epc : Addr              -- EPC
  badVAddr : Addr         -- BadVAddr
  bd : Bool               -- Cause.BD
  excCode : BitVec 5      -- Cause.ExcCode (R260)
  ce : BitVec 2           -- Cause.CE (R260)
  exl : Bool              -- Status.EXL
  bev : Bool              -- Status.BEV
deriving DecidableEq, Repr

/-- The state of the machine. -/
structure State where
  /-- The configuration record (R5), written by nothing (log 8). -/
  cfg : Config
  /-- FPR[0..31] (R20, R21). -/
  fpr : Vector Fpr 32
  /-- The mode bit: true in the 32-register mode, false in the 16 FP registers mode (R22). -/
  fp32regs : Bool
  /-- The FCSR with the eight condition codes (R24 to R30). -/
  fcsr : Fcsr
  /-- The address of the instruction being executed (R33). -/
  pc : Addr
  /-- The delay-slot state: where control goes after the instruction at pc, when that is in a delay slot (R35). -/
  ds : Option Addr
  /-- Coprocessor 1 usable (R37). -/
  cu1 : Bool
  /-- The CP0 registers of R276. -/
  cp0 : Cp0
  /-- The program text (R50). -/
  mem : Memory
  /-- The halt set (R303). -/
  halt : List Addr
  /-- The MODEL's own: how many draws have been made (R8, R125, log 12). -/
  draws : Nat
deriving DecidableEq, Repr

/-- The exceptions of R260. -/
inductive Exception where
  /-- CoprocessorUnusable with the coprocessor's number (R262). -/
  | coprocessorUnusable (unit : BitVec 2)
  /-- ReservedInstruction (R263). -/
  | reservedInstruction
  /-- FloatingPoint(C): one exception whatever the set C (R264). -/
  | floatingPoint (c : Cause)
  /-- AddressErrorFetch with the bad pc (R54). -/
  | addressErrorFetch (addr : Addr)
deriving DecidableEq, Repr

/-- What Fault(E, info) records (R275). -/
structure FaultRecord where
  /-- E with its argument. -/
  exception : Exception
  /-- info.pc, the address of the faulting instruction. -/
  pc : Addr
  /-- info.in_delay_slot. -/
  inDelaySlot : Bool
  /-- info.resume, where the architecture would restart: the instruction, or the branch whose delay slot it is in. -/
  resume : Addr
  /-- The state recorded: the one before the step but for FCSR.Cause on FloatingPoint. -/
  recorded : State
deriving DecidableEq, Repr

/-- Why a step ends the run without being refused. -/
inductive Fault where
  /-- The hardware takes an exception, and the model ends the run there with the record of R275 (R9, D8). Raised by the
  check of pc in `step` and by every instruction through `raise`. Safe: the model stops where the hardware goes on. -/
  | exception (r : FaultRecord)
  /-- The state is final: pc is in the halt set and no delay slot is pending, so no step is taken (R303). Raised by
  `step`. Safe: the run has ended as the spec ends it. -/
  | final
  /-- Stuck: `FetchWord(pc)` is undefined, so the spec gives no step (R55, D16); the host's interface has no fourth
  outcome (log 14). Raised by `step`. Safe. -/
  | stuck
deriving DecidableEq, Repr

/-- Why the model gives a step no meaning (R9). Every one is safe: the model stops where the hardware goes on. -/
inductive Refusal where
  /-- An instruction whose arm has no meaning yet, by its mnemonic. Raised by no arm. -/
  | notModelled (mnemonic : String)
  /-- The word is none of the 68 encodings (R88). Raised by `step`. -/
  | notInScope
  /-- A branch word with bit 17 set (R83). Raised by `step`. -/
  | reservedNd
  /-- A misaligned condition-code number: "UNPREDICTABLE behavior" (R84), "the operation of the instruction is
  UNPREDICTABLE" (R85). Raised by `step` on such a word and by `guarded` on such an instruction. -/
  | ccAlignment
  /-- A branch in a delay slot: "Processor operation is UNPREDICTABLE" (R155). Raised by the four branches. -/
  | branchInDelaySlot
  /-- A floating-point register instruction in the 16 FP registers mode (R22, D10): "The result of ADDR.PS is
  UNPREDICTABLE", and the source has no register model of that mode (N25). Raised by the 64 instructions that read a
  register. -/
  | sixteenRegisterMode
  /-- An operand register whose tag does not allow the format it is read in (R21, R124): "the result is UNPREDICTABLE and
  the values in the operand FPRs become UNPREDICTABLE". Raised by the 64 instructions that read a register. -/
  | operandFormat
deriving DecidableEq, Repr

/-- The machine right after reset. The spec gives no reset value at all (R41, R302): each value here is named by the log
entry beside it. -/
def State.reset : State where
  cfg := Config.default                                  -- log 8
  fpr := Vector.replicate 32 ⟨Tag.reset, 0#64⟩           -- log 1
  fp32regs := true                                       -- log 2
  fcsr :=                                                -- log 3
    { rm := .rn, fs := false, cause := ⟨false, ⟨false, false, false, false, false⟩⟩,
      enables := ⟨false, false, false, false, false⟩, flags := ⟨false, false, false, false, false⟩,
      fcc := Vector.replicate 8 false }
  pc := 0xFFFFFFFFBFC00000#64                            -- log 4
  ds := none                                             -- log 4
  cu1 := true                                            -- log 2
  cp0 :=                                                 -- log 5
    { epc := 0#64, badVAddr := 0#64, bd := false, excCode := 0#5, ce := 0#2, exl := false, bev := true }
  mem := []                                              -- log 6
  halt := []                                             -- log 6
  draws := 0                                             -- log 12

end Sys2Proof.Machine
end

