-- ==== Sys2Proof/Machine/Flags.lean ====
section
/-! DEFINITION. Condition sets, FCSR.Cause, FCSR.Flags, the condition codes, and the FCSR as a 32-bit word
(spec/10_state.md R24 to R30, spec/40_fp_common.md R121, R126). -/

namespace Sys2Proof.Machine

/-- The empty set of conditions. -/
def noConds : Conds := ⟨false, false, false, false, false⟩

/-- Invalid Operation alone (R266). -/
def condV : Conds := ⟨true, false, false, false, false⟩

/-- Inexact alone (R270). -/
def condI : Conds := ⟨false, false, false, false, true⟩

/-- Overflow, which always comes with Inexact (R113, R268). -/
def condOI : Conds := ⟨false, false, true, false, true⟩

/-- Underflow and Inexact, each where its argument says (R114). -/
def condUI (u i : Bool) : Conds := ⟨false, false, false, u, i⟩

/-- The union of two sets: "Any generated exceptions in the two independent adds are OR'ed together" (R121). -/
def unionConds (a b : Conds) : Conds :=
  ⟨a.v || b.v, a.z || b.z, a.o || b.o, a.u || b.u, a.i || b.i⟩

/-- The conditions of the first set that the second has too. -/
def commonConds (a b : Conds) : Conds :=
  ⟨a.v && b.v, a.z && b.z, a.o && b.o, a.u && b.u, a.i && b.i⟩

/-- A set without Division-by-zero, for the pages that do not list it (R267, R271). -/
def withoutZ (a : Conds) : Conds := { a with z := false }

/-- Some condition of the set has its Enable bit set (R27, R121). -/
def meetsEnables (enables c : Conds) : Bool :=
  (enables.v && c.v) || (enables.z && c.z) || (enables.o && c.o) || (enables.u && c.u) || (enables.i && c.i)

/-- A Cause of conditions without Unimplemented Operation. -/
def causeOf (c : Conds) : Cause := ⟨false, c⟩

/-- The Cause of an Unimplemented Operation: E excludes the others (R123, R272). -/
def causeE : Cause := ⟨true, noConds⟩

/-- The set traps: E always, any other condition when enabled (R121, R265). -/
def causeTraps (enables : Conds) (c : Cause) : Bool :=
  c.e || meetsEnables enables c.conds

/-- The 2-bit code of a rounding mode (R25). -/
def rmCode : RoundingMode → BitVec 2
  | .rn => 0#2
  | .rz => 1#2
  | .rp => 2#2
  | .rm => 3#2

/-- The rounding mode of a 2-bit code (R25). -/
def rmOfCode (b : BitVec 2) : RoundingMode :=
  match b.toNat with
  | 0 => .rn
  | 1 => .rz
  | 2 => .rp
  | _ => .rm

/-- Five conditions as bits V Z O U I, V the most significant (R24). -/
def condsCode (c : Conds) : BitVec 5 :=
  BitVec.ofBool c.v ++ BitVec.ofBool c.z ++ BitVec.ofBool c.o ++ BitVec.ofBool c.u ++ BitVec.ofBool c.i

/-- The conditions of bits V Z O U I (R24). -/
def condsOfCode (b : BitVec 5) : Conds :=
  ⟨b.getLsbD 4, b.getLsbD 3, b.getLsbD 2, b.getLsbD 1, b.getLsbD 0⟩

/-- FPConditionCode(n) (R126). -/
def fccGet (f : Fcsr) (n : CcNum) : Bool :=
  f.fcc[n.toNat]'(n.isLt)

/-- SetFPConditionCode(n, b) (R126). -/
def fccSet (n : CcNum) (b : Bool) (f : Fcsr) : Fcsr :=
  { f with fcc := f.fcc.set n.toNat b n.isLt }

/-- FCSR.Cause <- C, all six bits (R26, R121). -/
def fcsrSetCause (c : Cause) (f : Fcsr) : Fcsr :=
  { f with cause := c }

/-- FCSR.Flags <- FCSR.Flags or C (R28, R121). -/
def fcsrOrFlags (c : Conds) (f : Fcsr) : Fcsr :=
  { f with flags := unionConds f.flags c }

/-- The FCSR as a 32-bit word, in the layout of R24. The implementation-dependent bits 22..21 and the reserved bits
20..18 are no state (R31) and stand as zero (log 22). -/
def fcsrToWord (f : Fcsr) : BitVec 32 :=
  BitVec.ofBool (fccGet f 7) ++ BitVec.ofBool (fccGet f 6) ++ BitVec.ofBool (fccGet f 5) ++ BitVec.ofBool (fccGet f 4)
    ++ BitVec.ofBool (fccGet f 3) ++ BitVec.ofBool (fccGet f 2) ++ BitVec.ofBool (fccGet f 1)
    ++ BitVec.ofBool f.fs ++ BitVec.ofBool (fccGet f 0) ++ 0#5
    ++ BitVec.ofBool f.cause.e ++ condsCode f.cause.conds ++ condsCode f.enables ++ condsCode f.flags ++ rmCode f.rm

/-- The FCSR a 32-bit word stands for, "for reading a launch state given as an FCSR word" (R24). -/
def fcsrOfWord (w : BitVec 32) : Fcsr where
  rm := rmOfCode (w.extractLsb' 0 2)
  fs := w.getLsbD 24
  cause := ⟨w.getLsbD 17, condsOfCode (w.extractLsb' 12 5)⟩
  enables := condsOfCode (w.extractLsb' 7 5)
  flags := condsOfCode (w.extractLsb' 2 5)
  fcc := #v[w.getLsbD 23, w.getLsbD 25, w.getLsbD 26, w.getLsbD 27, w.getLsbD 28, w.getLsbD 29, w.getLsbD 30,
    w.getLsbD 31]

end Sys2Proof.Machine
end

