-- ==== Sys2Proof/Machine/Arith.lean ====
section
/-! DEFINITION. Floating-point formats, rounding, addition, multiplication, comparison and conversion
(spec/40_fp_common.md R100 to R131). The spec marks this arithmetic as general knowledge of IEEE 754 that its rules
adopt (log 18). Magnitudes are exact: a finite value is an integer number of the format's smallest denormalized units,
and every intermediate result is a fraction of naturals, so nothing is lost before the one rounding. -/

namespace Sys2Proof.Machine

/-- A binary interchange layout: the widths of the exponent and fraction fields. -/
structure Layout where
  expBits : Nat
  fracBits : Nat
deriving DecidableEq, Repr

/-- Format S (R100): bias 127, 23 fraction bits. -/
def single : Layout := ⟨8, 23⟩

/-- Format D (R101): bias 1023, 52 fraction bits. -/
def double : Layout := ⟨11, 52⟩

/-- The exponent bias (R100, R101). -/
def bias (L : Layout) : Nat := 2 ^ (L.expBits - 1) - 1

/-- The exponent field of infinities and NaNs. -/
def expMax (L : Layout) : Nat := 2 ^ L.expBits - 1

/-- The exponent of the smallest normalized value: -126 or -1022. -/
def minExp (L : Layout) : Int := 1 - (bias L : Int)

/-- The biased exponent field of a bit pattern. -/
def expField {w : Nat} (L : Layout) (x : BitVec w) : Nat := x.toNat / 2 ^ L.fracBits % 2 ^ L.expBits

/-- The fraction field of a bit pattern. -/
def fracField {w : Nat} (L : Layout) (x : BitVec w) : Nat := x.toNat % 2 ^ L.fracBits

/-- `sign(x)`, the top bit (R105). -/
def signBit {w : Nat} (x : BitVec w) : Bool := x.msb

/-- AbsoluteValue(x): the sign bit cleared (R105). -/
def absValue {w : Nat} (x : BitVec w) : BitVec w := x &&& BitVec.intMax w

/-- A NaN pattern (R100, R101). -/
def isNaN {w : Nat} (L : Layout) (x : BitVec w) : Bool := expField L x == expMax L && fracField L x != 0

/-- An infinity (R100, R101). -/
def isInf {w : Nat} (L : Layout) (x : BitVec w) : Bool := expField L x == expMax L && fracField L x == 0

/-- A zero of either sign (R100, R101). -/
def isZero {w : Nat} (L : Layout) (x : BitVec w) : Bool := expField L x == 0 && fracField L x == 0

/-- A denormalized value (R100, R101). -/
def isDenorm {w : Nat} (L : Layout) (x : BitVec w) : Bool := expField L x == 0 && fracField L x != 0

/-- A normalized value (R100, R101). -/
def isNormal {w : Nat} (L : Layout) (x : BitVec w) : Bool := expField L x != 0 && expField L x != expMax L

/-- SNaN(x) (R108): with NAN2008 false a NaN is signaling when its most significant fraction bit is 1, with NAN2008
true when it is 0. -/
def isSNaN {w : Nat} (nan2008 : Bool) (L : Layout) (x : BitVec w) : Bool :=
  isNaN L x && (x.getLsbD (L.fracBits - 1) != nan2008)

/-- QNaN(x) (R108): every NaN is either signaling or quiet. -/
def isQNaN {w : Nat} (nan2008 : Bool) (L : Layout) (x : BitVec w) : Bool :=
  isNaN L x && (x.getLsbD (L.fracBits - 1) == nan2008)

/-- The default quiet NaN R109 gives for each value of NAN2008, format S. -/
def qnanOfEncodingS (nan2008 : Bool) : BitVec 32 := if nan2008 then 0x7FC00000#32 else 0x7FBFFFFF#32

/-- The default quiet NaN R109 gives for each value of NAN2008, format D. -/
def qnanOfEncodingD (nan2008 : Bool) : BitVec 64 :=
  if nan2008 then 0x7FF8000000000000#64 else 0x7FF7FFFFFFFFFFFF#64

/-- QNAN_DEFAULT_S (R109): the configuration's, which must be a quiet NaN; where it is none under NAN2008, the value R109
gives (log 23). -/
def qnanDefaultS (c : Config) : BitVec 32 :=
  if isQNaN c.nan2008 single c.qnanDefaultS then c.qnanDefaultS else qnanOfEncodingS c.nan2008

/-- QNAN_DEFAULT_D (R109), in the same way. -/
def qnanDefaultD (c : Config) : BitVec 64 :=
  if isQNaN c.nan2008 double c.qnanDefaultD then c.qnanDefaultD else qnanOfEncodingD c.nan2008

/-- The magnitude of a zero, denormalized or normalized pattern in units of the smallest denormalized value (R100,
R101, R105). An infinity gets the magnitude the next power of two would have, which is above every finite one. -/
def magnitude {w : Nat} (L : Layout) (x : BitVec w) : Nat :=
  if expField L x = 0 then fracField L x
  else (2 ^ L.fracBits + fracField L x) * 2 ^ (expField L x - 1)

/-- `val_S`, `val_D` of R105 in those units, with the sign. -/
def signedMagnitude {w : Nat} (L : Layout) (x : BitVec w) : Int :=
  if signBit x then -(magnitude L x : Int) else (magnitude L x : Int)

/-- How many of those units make 1: 2^149 or 2^1074. -/
def unitsPerOne (L : Layout) : Nat := 2 ^ (bias L + L.fracBits - 1)

/-- The pattern with the given sign and the given exponent and fraction fields as one number. -/
def packBits (w : Nat) (s : Bool) (fields : Nat) : BitVec w :=
  BitVec.ofNat w (fields + if s then 2 ^ (w - 1) else 0)

/-- The exponent and fraction fields of an infinity. -/
def infFields (L : Layout) : Nat := expMax L * 2 ^ L.fracBits

/-- The infinity of a sign. -/
def infinity (L : Layout) (w : Nat) (s : Bool) : BitVec w := packBits w s (infFields L)

/-- The largest normalized magnitude with a sign: "the maximum normalized value" (R100, R101, R221, R241). -/
def maxNormal (L : Layout) (w : Nat) (s : Bool) : BitVec w := packBits w s (infFields L - 1)

/-- The zero of a sign. -/
def zeroOf (w : Nat) (s : Bool) : BitVec w := packBits w s 0

/-- Where a remainder r, 0 <= r < 1, lies (R111): all that the choice between lo and lo+1 asks of it. -/
inductive Remainder where
  | zero | belowHalf | half | aboveHalf
deriving DecidableEq, Repr

/-- The remainder of num / den after its whole part. -/
def remainderOf (num den : Nat) : Remainder :=
  if num % den = 0 then .zero
  else if 2 * (num % den) < den then .belowHalf
  else if 2 * (num % den) = den then .half
  else .aboveHalf

/-- The choice between lo and lo+1 for sign s (R111). -/
def roundChoice (mode : RoundingMode) (s : Bool) (lo : Nat) (r : Remainder) : Nat :=
  match mode, r with
  | _, .zero => lo
  | .rn, .belowHalf => lo
  | .rn, .half => if lo % 2 = 1 then lo + 1 else lo
  | .rn, .aboveHalf => lo + 1
  | .rz, _ => lo
  | .rp, _ => if s then lo else lo + 1
  | .rm, _ => if s then lo + 1 else lo

/-- The fraction (num / den) / 2^e as a numerator and a denominator. -/
def scaled (num den : Nat) (e : Int) : Nat × Nat :=
  match e with
  | .ofNat n => (num, den * 2 ^ n)
  | .negSucc n => (num * 2 ^ (n + 1), den)

/-- floor(log2 (num / den)) of a positive fraction. -/
def floorLog2 (num den : Nat) : Int :=
  let k : Int := (Nat.log2 num : Int) - (Nat.log2 den : Int)
  let q := scaled num den k
  if q.2 ≤ q.1 then k else k - 1

/-- The whole part and the remainder of (num / den) / 2^e. -/
def placeRatio (num den : Nat) (e : Int) : Nat × Remainder :=
  let q := scaled num den e
  (q.1 / q.2, remainderOf q.1 q.2)

/-- A rounded result: its bits, its conditions, and whether it is tiny (R110, R116). -/
structure Rounded (w : Nat) where
  bits : BitVec w
  conds : Conds
  tiny : Bool
deriving DecidableEq, Repr

/-- The result of an overflow with the trap disabled (R113). -/
def overflowResult (L : Layout) (w : Nat) (mode : RoundingMode) (s : Bool) : BitVec w :=
  match mode with
  | .rn => infinity L w s
  | .rz => maxNormal L w s
  | .rp => if s then maxNormal L w s else infinity L w s
  | .rm => if s then infinity L w s else maxNormal L w s

/-- `round_S` and `round_D` (R110) of a positive magnitude m given by e0 = floor(log2 m) and by the whole part and
remainder of m / 2^e at any exponent e. With E = max(e0, minExp), the rounded integer n at the last place E - fracBits
gives the exponent and fraction fields (E - minExp) * 2^fracBits + n, whether n is denormalized, normalized or has
carried into the next exponent. Overflow by R113, tininess by R116, underflow by R114. -/
def roundPlaced (L : Layout) (w : Nat) (c : Config) (f : Fcsr) (s : Bool) (e0 : Int) (place : Int → Nat × Remainder) :
    Rounded w :=
  let e := max e0 (minExp L)
  let p := place (e - L.fracBits)
  let n := roundChoice f.rm s p.1 p.2
  let fields := (e - minExp L).toNat * 2 ^ L.fracBits + n
  let p0 := place (e0 - L.fracBits)
  let carries := roundChoice f.rm s p0.1 p0.2 == 2 ^ (L.fracBits + 1)
  let tiny := decide (e0 < minExp L) && !(c.tininessAfterRounding && e0 == minExp L - 1 && carries)
  let inexact := p.2 != .zero
  if infFields L ≤ fields then ⟨overflowResult L w f.rm s, condOI, false⟩
  else ⟨packBits w s fields, condUI (tiny && (inexact || f.enables.u)) inexact, tiny⟩

/-- `round_S`, `round_D` of the magnitude num / den (R110). -/
def roundRatio (L : Layout) (w : Nat) (c : Config) (f : Fcsr) (s : Bool) (num den : Nat) : Rounded w :=
  roundPlaced L w c f s (floorLog2 num den) (placeRatio num den)

/-- `Numerics.flush` (R120) on a tiny result: the identity in the reference instance, else the open function, which
returns no condition that the ADDR.PS and MULR.PS pages do not list (R271). -/
def flushTiny (c : Config) (f : Fcsr) (s : Bool) (r : Rounded 32) : BitVec 32 × Conds :=
  match c.numerics with
  | .reference => (r.bits, r.conds)
  | .implementation =>
    if r.tiny then
      ((Config.flush f.fs f.rm s r.bits r.conds).1, withoutZ (Config.flush f.fs f.rm s r.bits r.conds).2)
    else (r.bits, r.conds)

/-- `round_S` with the flush treatment, as ADDR.PS and MULR.PS use it (R117, R120). -/
def roundFlush (c : Config) (f : Fcsr) (s : Bool) (num den : Nat) : BitVec 32 × Conds :=
  flushTiny c f s (roundRatio single 32 c f s num den)

/-- The first of two operands that is a quiet NaN: the reference `nan_result` (spec/95_test_vectors.md). -/
def firstQNaN {w : Nat} (nan2008 : Bool) (L : Layout) (a b : BitVec w) : BitVec w :=
  if isQNaN nan2008 L a then a else b

/-- `nan_result` (R118): "the spec assumes only that its value satisfies QNaN". -/
def nanResult (c : Config) (op : ArithOp) (a b : BitVec 32) : BitVec 32 :=
  match c.numerics with
  | .reference => firstQNaN c.nan2008 single a b
  | .implementation =>
    if isQNaN c.nan2008 single (Config.nanResult op a b) then Config.nanResult op a b
    else qnanDefaultS c

/-- NaN operands of ADDR.PS and MULR.PS (R118), asked when at least one operand is a NaN. -/
def nanOperands (c : Config) (op : ArithOp) (a b : BitVec 32) : BitVec 32 × Conds :=
  if isSNaN c.nan2008 single a || isSNaN c.nan2008 single b then (qnanDefaultS c, condV)
  else (nanResult c op a b, noConds)

/-- The sign of an exact sum of zero (R112). -/
def zeroSumSign (mode : RoundingMode) (a b : BitVec 32) : Bool :=
  if isZero single a && isZero single b && signBit a == signBit b then signBit a else mode == .rm

/-- `add_S` (R117). -/
def addS (c : Config) (f : Fcsr) (a b : BitVec 32) : BitVec 32 × Conds :=
  if isNaN single a || isNaN single b then nanOperands c .add a b
  else if isInf single a then
    if isInf single b && signBit a != signBit b then (qnanDefaultS c, condV) else (a, noConds)
  else if isInf single b then (b, noConds)
  else
    let sum := signedMagnitude single a + signedMagnitude single b
    if sum = 0 then (zeroOf 32 (zeroSumSign f.rm a b), noConds)
    else roundFlush c f (decide (sum < 0)) sum.natAbs (unitsPerOne single)

/-- `mul_S` (R117). -/
def mulS (c : Config) (f : Fcsr) (a b : BitVec 32) : BitVec 32 × Conds :=
  let s := signBit a ^^ signBit b
  if isNaN single a || isNaN single b then nanOperands c .mul a b
  else if isInf single a || isInf single b then
    if isZero single a || isZero single b then (qnanDefaultS c, condV) else (infinity single 32 s, noConds)
  else if isZero single a || isZero single b then (zeroOf 32 s, noConds)
  else roundFlush c f s (magnitude single a * magnitude single b) (unitsPerOne single * unitsPerOne single)

/-- `a <fmt b` of two non-NaN values (R131). -/
def fpLess {w : Nat} (L : Layout) (a b : BitVec w) : Bool := signedMagnitude L a < signedMagnitude L b

/-- `a =fmt b` of two non-NaN values (R131): +0 and -0 are equal. -/
def fpEqual {w : Nat} (L : Layout) (a b : BitVec w) : Bool := signedMagnitude L a == signedMagnitude L b

/-- The compare predicate of CABS.cond.fmt (R172): the condition, and whether Invalid Operation arises. -/
def cabs1 {w : Nat} (nan2008 : Bool) (L : Layout) (cond : BitVec 4) (a b : BitVec w) : Bool × Bool :=
  let unordered := isNaN L a || isNaN L b
  let less := !unordered && fpLess L (absValue a) (absValue b)
  let equal := !unordered && fpEqual L (absValue a) (absValue b)
  let invalid := isSNaN nan2008 L a || isSNaN nan2008 L b
    || (cond.getLsbD 3 && (isQNaN nan2008 L a || isQNaN nan2008 L b))
  ((cond.getLsbD 2 && less) || (cond.getLsbD 1 && equal) || (cond.getLsbD 0 && unordered), invalid)

/-- ConvertFmt(x, W, S) (R127), with Inexact subject to CVT_PS_PW_INEXACT (R202). -/
def convertWS (c : Config) (f : Fcsr) (x : BitVec 32) : BitVec 32 × Conds :=
  if x = 0#32 then (0#32, noConds)
  else
    let r := roundRatio single 32 c f x.msb x.toInt.natAbs 1
    (r.bits, if c.cvtPsPwInexact then r.conds else noConds)

/-- The default result of an Invalid Operation in CVT.PW.PS, 2^31-1 (R122, R205). -/
def invalidWord : BitVec 32 := 0x7FFFFFFF#32

/-- ConvertFmt(x, S, W) (R128), with the default result in a half that raised V (R205). -/
def convertSW (f : Fcsr) (x : BitVec 32) : BitVec 32 × Conds :=
  if isNaN single x || isInf single x then (invalidWord, condV)
  else
    let p := placeRatio (magnitude single x) (unitsPerOne single) 0
    let n := roundChoice f.rm (signBit x) p.1 p.2
    let k : Int := if signBit x then -(n : Int) else n
    if k < -2 ^ 31 ∨ 2 ^ 31 - 1 < k then (invalidWord, condV)
    else (BitVec.ofInt 32 k, if p.2 = .zero then noConds else condI)

end Sys2Proof.Machine
end

