-- ==== Sys2Proof/Machine/Approx.lean ====
section
/-! DEFINITION. The implementation-dependent functions of RECIP1, RECIP2, RSQRT1 and RSQRT2 (spec/46_recip.md R221,
R226, spec/47_rsqrt.md R241, R246). Each is the open function of Config.lean with the facts the source fixes of it
imposed, or, where the configuration asks for it, the spec's reference instance "for executing the model only"
(D22; log 10). -/

namespace Sys2Proof.Machine

/-- The fixed cases of RECIP1 and RSQRT1 (R221, R241 (a) and (b)): a zero input gives the maximum normalized magnitude,
an infinite one a zero. The signs are the open function's. -/
def fixedCases {w : Nat} (L : Layout) (x r : BitVec w) : BitVec w :=
  if isZero L x then maxNormal L w (signBit r)
  else if isInf L x then zeroOf w (signBit r)
  else r

/-- The reference `recip1` (R221): the exact reciprocal, correctly rounded. -/
def refRecip1 (L : Layout) (w : Nat) (qnanDefault : BitVec w) (c : Config) (f : Fcsr) (x : BitVec w) : BitVec w × Conds :=
  if isSNaN c.nan2008 L x then (qnanDefault, condV)
  else if isNaN L x then (x, noConds)
  else if isInf L x then (zeroOf w (signBit x), noConds)
  else if isZero L x || isDenorm L x then (maxNormal L w (signBit x), noConds)
  else
    let r := roundRatio L w c f (signBit x) (unitsPerOne L) (magnitude L x)
    (r.bits, r.conds)

/-- The reference `recip2` and `rsqrt2` (R226, R246): (1 - a*b) / divisor, rounded once. -/
def refStep2 (divisor : Nat) (L : Layout) (w : Nat) (qnanDefault : BitVec w) (c : Config) (f : Fcsr) (a b : BitVec w) :
    BitVec w × Conds :=
  if isSNaN c.nan2008 L a || isSNaN c.nan2008 L b then (qnanDefault, condV)
  else if isNaN L a || isNaN L b then (firstQNaN c.nan2008 L a b, noConds)
  else if isInf L a || isInf L b then
    if isZero L a || isZero L b then (qnanDefault, condV)
    else (infinity L w (!(signBit a ^^ signBit b)), noConds)
  else
    let v : Int := (unitsPerOne L * unitsPerOne L : Nat) - signedMagnitude L a * signedMagnitude L b
    if v = 0 then (zeroOf w false, noConds)
    else
      let r := roundRatio L w c f (decide (v < 0)) v.natAbs (divisor * (unitsPerOne L * unitsPerOne L))
      (r.bits, r.conds)

/-- floor(sqrt n), bit by bit: `acc` holds the bits found, `k` bits remain. -/
def isqrtLoop (n : Nat) : Nat → Nat → Nat
  | 0, acc => acc
  | k + 1, acc => if (acc + 2 ^ k) * (acc + 2 ^ k) ≤ n then isqrtLoop n k (acc + 2 ^ k) else isqrtLoop n k acc

/-- floor(sqrt n) for n below 2^128. -/
def isqrt (n : Nat) : Nat := isqrtLoop n 64 0

/-- The whole part and the remainder of sqrt(num / den) / 2^e. -/
def placeSqrt (num den : Nat) (e : Int) : Nat × Remainder :=
  let q := scaled num den (2 * e)
  let lo := isqrt (q.1 / q.2)
  (lo,
    if q.2 * (lo * lo) = q.1 then .zero
    else if 4 * q.1 < q.2 * ((2 * lo + 1) * (2 * lo + 1)) then .belowHalf
    else if 4 * q.1 = q.2 * ((2 * lo + 1) * (2 * lo + 1)) then .half
    else .aboveHalf)

/-- The reference `rsqrt1` (R241): 1/sqrt(x), correctly rounded. The rule's cases are read in the order it lists them,
so a negative denormalized input is a negative finite one (log 10). -/
def refRsqrt1 (L : Layout) (w : Nat) (qnanDefault : BitVec w) (c : Config) (f : Fcsr) (x : BitVec w) : BitVec w × Conds :=
  if isSNaN c.nan2008 L x then (qnanDefault, condV)
  else if isNaN L x then (x, noConds)
  else if isInf L x then (zeroOf w (signBit x), noConds)
  else if isZero L x then (maxNormal L w (signBit x), noConds)
  else if signBit x then (qnanDefault, condV)
  else if isDenorm L x then (maxNormal L w (signBit x), noConds)
  else
    let r := roundPlaced L w c f false (floorLog2 (unitsPerOne L) (magnitude L x) / 2)
      (placeSqrt (unitsPerOne L) (magnitude L x))
    (r.bits, r.conds)

/-- `recip1_S` (R221). -/
def recip1S (c : Config) (f : Fcsr) (x : BitVec 32) : BitVec 32 × Conds :=
  match c.numerics with
  | .reference => refRecip1 single 32 (qnanDefaultS c) c f x
  | .implementation => (fixedCases single x (Config.recip1S f.rm f.fs x).1, (Config.recip1S f.rm f.fs x).2)

/-- `recip1_D` (R221). -/
def recip1D (c : Config) (f : Fcsr) (x : BitVec 64) : BitVec 64 × Conds :=
  match c.numerics with
  | .reference => refRecip1 double 64 (qnanDefaultD c) c f x
  | .implementation => (fixedCases double x (Config.recip1D f.rm f.fs x).1, (Config.recip1D f.rm f.fs x).2)

/-- `recip2_S` (R226); the page does not list Division-by-zero (R271). -/
def recip2S (c : Config) (f : Fcsr) (a b : BitVec 32) : BitVec 32 × Conds :=
  match c.numerics with
  | .reference => refStep2 1 single 32 (qnanDefaultS c) c f a b
  | .implementation => ((Config.recip2S f.rm f.fs a b).1, withoutZ (Config.recip2S f.rm f.fs a b).2)

/-- `recip2_D` (R226). -/
def recip2D (c : Config) (f : Fcsr) (a b : BitVec 64) : BitVec 64 × Conds :=
  match c.numerics with
  | .reference => refStep2 1 double 64 (qnanDefaultD c) c f a b
  | .implementation => ((Config.recip2D f.rm f.fs a b).1, withoutZ (Config.recip2D f.rm f.fs a b).2)

/-- `rsqrt1_S` (R241). -/
def rsqrt1S (c : Config) (f : Fcsr) (x : BitVec 32) : BitVec 32 × Conds :=
  match c.numerics with
  | .reference => refRsqrt1 single 32 (qnanDefaultS c) c f x
  | .implementation => (fixedCases single x (Config.rsqrt1S f.rm f.fs x).1, (Config.rsqrt1S f.rm f.fs x).2)

/-- `rsqrt1_D` (R241). -/
def rsqrt1D (c : Config) (f : Fcsr) (x : BitVec 64) : BitVec 64 × Conds :=
  match c.numerics with
  | .reference => refRsqrt1 double 64 (qnanDefaultD c) c f x
  | .implementation => (fixedCases double x (Config.rsqrt1D f.rm f.fs x).1, (Config.rsqrt1D f.rm f.fs x).2)

/-- `rsqrt2_S` (R246); the page does not list Division-by-zero (R271). -/
def rsqrt2S (c : Config) (f : Fcsr) (a b : BitVec 32) : BitVec 32 × Conds :=
  match c.numerics with
  | .reference => refStep2 2 single 32 (qnanDefaultS c) c f a b
  | .implementation => ((Config.rsqrt2S f.rm f.fs a b).1, withoutZ (Config.rsqrt2S f.rm f.fs a b).2)

/-- `rsqrt2_D` (R246). -/
def rsqrt2D (c : Config) (f : Fcsr) (a b : BitVec 64) : BitVec 64 × Conds :=
  match c.numerics with
  | .reference => refStep2 2 double 64 (qnanDefaultD c) c f a b
  | .implementation => ((Config.rsqrt2D f.rm f.fs a b).1, withoutZ (Config.rsqrt2D f.rm f.fs a b).2)

end Sys2Proof.Machine
end

