-- ==== Sys2Proof/Machine/Listed.lean ====
section
/-! DEFINITION. Which conditions each instruction can raise (spec/60_exceptions.md R267, R271). -/

namespace Sys2Proof.Machine

/-- The conditions besides E that an instruction's rules or its configuration function can put in C: the table of R271.
Inexact of CVT.PS.PW is the parameter of R202; Overflow of CVT.PW.PS is listed by its page and raised by no rule (R204). -/
def listedConds (c : Config) : Instr → Conds
  | .addrPs _ _ _ => ⟨true, false, true, true, true⟩
  | .bc1any2f _ _ => noConds
  | .bc1any2t _ _ => noConds
  | .bc1any4f _ _ => noConds
  | .bc1any4t _ _ => noConds
  | .cabsFS _ _ _ => condV
  | .cabsFD _ _ _ => condV
  | .cabsFPs _ _ _ => condV
  | .cabsUnS _ _ _ => condV
  | .cabsUnD _ _ _ => condV
  | .cabsUnPs _ _ _ => condV
  | .cabsEqS _ _ _ => condV
  | .cabsEqD _ _ _ => condV
  | .cabsEqPs _ _ _ => condV
  | .cabsUeqS _ _ _ => condV
  | .cabsUeqD _ _ _ => condV
  | .cabsUeqPs _ _ _ => condV
  | .cabsOltS _ _ _ => condV
  | .cabsOltD _ _ _ => condV
  | .cabsOltPs _ _ _ => condV
  | .cabsUltS _ _ _ => condV
  | .cabsUltD _ _ _ => condV
  | .cabsUltPs _ _ _ => condV
  | .cabsOleS _ _ _ => condV
  | .cabsOleD _ _ _ => condV
  | .cabsOlePs _ _ _ => condV
  | .cabsUleS _ _ _ => condV
  | .cabsUleD _ _ _ => condV
  | .cabsUlePs _ _ _ => condV
  | .cabsSfS _ _ _ => condV
  | .cabsSfD _ _ _ => condV
  | .cabsSfPs _ _ _ => condV
  | .cabsNgleS _ _ _ => condV
  | .cabsNgleD _ _ _ => condV
  | .cabsNglePs _ _ _ => condV
  | .cabsSeqS _ _ _ => condV
  | .cabsSeqD _ _ _ => condV
  | .cabsSeqPs _ _ _ => condV
  | .cabsNglS _ _ _ => condV
  | .cabsNglD _ _ _ => condV
  | .cabsNglPs _ _ _ => condV
  | .cabsLtS _ _ _ => condV
  | .cabsLtD _ _ _ => condV
  | .cabsLtPs _ _ _ => condV
  | .cabsNgeS _ _ _ => condV
  | .cabsNgeD _ _ _ => condV
  | .cabsNgePs _ _ _ => condV
  | .cabsLeS _ _ _ => condV
  | .cabsLeD _ _ _ => condV
  | .cabsLePs _ _ _ => condV
  | .cabsNgtS _ _ _ => condV
  | .cabsNgtD _ _ _ => condV
  | .cabsNgtPs _ _ _ => condV
  | .cvtPsPw _ _ => ⟨false, false, false, false, c.cvtPsPwInexact⟩
  | .cvtPwPs _ _ => ⟨true, false, false, false, true⟩
  | .mulrPs _ _ _ => ⟨true, false, true, true, true⟩
  | .recip1S _ _ => ⟨true, true, true, true, true⟩
  | .recip1D _ _ => ⟨true, true, true, true, true⟩
  | .recip1Ps _ _ => ⟨true, true, true, true, true⟩
  | .recip2S _ _ _ => ⟨true, false, true, true, true⟩
  | .recip2D _ _ _ => ⟨true, false, true, true, true⟩
  | .recip2Ps _ _ _ => ⟨true, false, true, true, true⟩
  | .rsqrt1S _ _ => ⟨true, true, true, true, true⟩
  | .rsqrt1D _ _ => ⟨true, true, true, true, true⟩
  | .rsqrt1Ps _ _ => ⟨true, true, true, true, true⟩
  | .rsqrt2S _ _ _ => ⟨true, false, true, true, true⟩
  | .rsqrt2D _ _ _ => ⟨true, false, true, true, true⟩
  | .rsqrt2Ps _ _ _ => ⟨true, false, true, true, true⟩

end Sys2Proof.Machine
end

