-- ==== Sys2Proof/Machine/Ops.lean ====
section
/-! DEFINITION. The named operations over memory, registers, the pc and exceptions that every instruction is made of:
spec/20_memory.md R50 to R55, spec/10_state.md R21 to R35, spec/40_fp_common.md R121 to R130,
spec/60_exceptions.md R262 to R279. -/

namespace Sys2Proof.Machine

/-- What a step or an instruction answers. -/
abbrev Out := Host.Outcome State Fault Refusal

/-! Addresses -/

/-- An address cut to GPRLEN bits (R8, R34): all address arithmetic is modulo 2^GPRLEN. -/
def wrapAddr (g : GprLen) (a : Addr) : Addr :=
  match g with
  | .w64 => a
  | .w32 => a &&& 0xFFFFFFFF#64

/-- Addition on addresses (R8, D11). -/
def addrAdd (s : State) (a b : Addr) : Addr := wrapAddr s.cfg.gprLen (a + b)

/-- The low two bits of an address are 00 (R33, R54). -/
def wordAligned (a : Addr) : Bool := a &&& 3#64 == 0#64

/-! Memory -/

/-- The byte at an address, if the text has one (R50). -/
def memRead : Memory → Nat → Option Byte
  | [], _ => none
  | c :: m, a => if c.1 = a then some c.2 else memRead m a

/-- A byte put at an address, the list staying sorted. Used by the loading of a program only: no instruction stores
(R50). -/
def memWrite : Memory → Nat → Byte → Memory
  | [], a, b => [(a, b)]
  | c :: m, a, b =>
    if a < c.1 then (a, b) :: c :: m
    else if a = c.1 then (a, b) :: m
    else c :: memWrite m a b

/-- Bytes put at consecutive addresses. -/
def memWriteBytes : Memory → Nat → List Byte → Memory
  | m, _, [] => m
  | m, a, b :: bs => memWriteBytes (memWrite m a b) (a + 1) bs

/-- FetchWord(a): the word at a, in the byte order of the configuration, where all four bytes are listed (R50, R52). -/
def fetchWord (s : State) (a : Addr) : Option Word :=
  match memRead s.mem a.toNat, memRead s.mem (a.toNat + 1), memRead s.mem (a.toNat + 2), memRead s.mem (a.toNat + 3) with
  | some b0, some b1, some b2, some b3 => some (wordOfBytes s.cfg.bigEndian b0 b1 b2 b3)
  | _, _, _, _ => none

/-- A word loaded at an address as the hardware stores it, from outside the machine (R300). -/
def loadWord (s : State) (a : Addr) (w : Word) : State :=
  { s with mem := memWriteBytes s.mem a.toNat (bytesOfWord s.cfg.bigEndian w) }

/-! Registers -/

/-- FPR[r] (R20). -/
def getFpr (s : State) (r : FReg) : Fpr := s.fpr[r.toNat]'(r.isLt)

/-- FPR[r] <- v (R8, R20). No register is hardwired. -/
def setFpr (r : FReg) (v : Fpr) (s : State) : State := { s with fpr := s.fpr.set r.toNat v r.isLt }

/-- A register with this tag may be read in this format (R21); the model's reset tag allows every format (log 1). -/
def tagAllows : Tag → Fmt → Bool
  | .s, f => f == .s
  | .d, f => f == .d
  | .ps, f => f == .ps
  | .pw, f => f == .pw
  | .raw64, f => f != .s
  | .raw32, f => f == .s
  | .none, _ => false
  | .reset, _ => true

/-- The tag of a stored format (R21). -/
def tagOf : Fmt → Tag
  | .s => .s
  | .d => .d
  | .ps => .ps
  | .pw => .pw

/-- The bits of register r that a read in format f takes (R124): bits 31..0, here below 32 zeros, for format S, all 64
for the others. -/
def operandBits (s : State) (r : FReg) (f : Fmt) : BitVec 64 :=
  match f with
  | .s => 0#32 ++ (getFpr s r).bits.extractLsb' 0 32
  | _ => (getFpr s r).bits

/-- ValueFPR(r, fmt) (R124): nothing where the tag forbids the read (R21). -/
def valueFpr (s : State) (r : FReg) (f : Fmt) : Option (BitVec 64) :=
  if tagAllows (getFpr s r).tag f then some (operandBits s r f) else none

/-- StoreFPR(r, fmt, v) (R125). After a result of format S the upper half is a draw, and the counter of draws moves on
(log 12). -/
def storeFpr (r : FReg) (f : Fmt) (v : BitVec 64) (s : State) : State :=
  match f with
  | .s => { setFpr r ⟨.s, Config.draw s.draws ++ v.extractLsb' 0 32⟩ s with draws := s.draws + 1 }
  | _ => setFpr r ⟨tagOf f, v⟩ s

/-- FCC[n] <- b (R126). -/
def setCc (n : CcNum) (b : Bool) (s : State) : State := { s with fcsr := fccSet n b s.fcsr }

/-- FCSR.Cause <- C (R121). -/
def setCause (c : Cause) (s : State) : State := { s with fcsr := fcsrSetCause c s.fcsr }

/-- FCSR.Flags <- FCSR.Flags or C (R121). -/
def orFlags (c : Conds) (s : State) : State := { s with fcsr := fcsrOrFlags c s.fcsr }

/-! The program counter -/

/-- The advance after an instruction that is no branch (R34): to the address after it, or, from a delay slot, to where
the branch goes. -/
def advance (s : State) : State :=
  match s.ds with
  | some t => { s with pc := t, ds := none }
  | none => { s with pc := addrAdd s s.pc 4#64 }

/-- The effect of a branch (R152): the delay-slot state is set, and control goes to the delay slot. -/
def branchTo (target : Addr) (s : State) : State :=
  { s with ds := some target, pc := addrAdd s s.pc 4#64 }

/-- The state is final (R303). -/
def isFinal (s : State) : Bool := s.halt.contains s.pc && s.ds.isNone

/-! Taking an exception and returning from one -/

/-- info.resume (R275, R277): the instruction, or the branch when it stands in a delay slot. -/
def resumeAddr (s : State) : Addr := if s.ds.isSome then addrAdd s s.pc (-4#64) else s.pc

/-- What Fault(E, info) records of the state it is given (R275). -/
def faultRecord (e : Exception) (s : State) : FaultRecord where
  exception := e
  pc := s.pc
  inDelaySlot := s.ds.isSome
  resume := resumeAddr s
  recorded := s

/-- The cause code of an exception (R260). -/
def excCode : Exception → BitVec 5
  | .coprocessorUnusable _ => 11#5
  | .reservedInstruction => 10#5
  | .floatingPoint _ => 15#5
  | .addressErrorFetch _ => 4#5

/-- The general exception vector of R276: base + 0x180. -/
def exceptionVector (g : GprLen) (bev : Bool) : Addr :=
  wrapAddr g ((if bev then 0xFFFFFFFFBFC00200#64 else 0xFFFFFFFF80000000#64) + 0x180#64)

/-- The CP0 registers after the architecture's trap entry (R276). CE and BadVAddr keep their values for the exceptions
R276 does not name them for (log 13). -/
def cp0OnEntry (e : Exception) (s : State) : Cp0 where
  epc := if s.cp0.exl then s.cp0.epc else resumeAddr s
  bd := if s.cp0.exl then s.cp0.bd else s.ds.isSome
  excCode := excCode e
  ce := match e with | .coprocessorUnusable n => n | _ => s.cp0.ce
  badVAddr := match e with | .addressErrorFetch a => a | _ => s.cp0.badVAddr
  exl := true
  bev := s.cp0.bev

/-- The architecture's trap entry (R276): the CP0 registers written and control at the vector, in no delay slot. -/
def enterException (e : Exception) (s : State) : State :=
  { s with cp0 := cp0OnEntry e s, pc := exceptionVector s.cfg.gprLen s.cp0.bev, ds := none }

/-- The return of R276: "Return is by ERET, which clears EXL and jumps to EPC". No instruction in scope makes it (R278,
R281): it stands beside the entry for a reader who extends the model. -/
def returnFromException (s : State) : State :=
  { s with cp0 := { s.cp0 with exl := false }, pc := s.cp0.epc, ds := none }

/-- TAKING AN EXCEPTION, the one operation every exception goes through. The spec's own treatment ends the run with the
record of R275 (R9, D8); where the configuration asks for the extension of R276, the entry is taken (log 13). -/
def raise (e : Exception) (s : State) : Out :=
  match s.cfg.traps with
  | .terminal => .fault (.exception (faultRecord e s))
  | .architectural => .next (enterException e s)

/-- The signalling protocol (R121): Cause is replaced by C; if C traps, the exception is taken and nothing else is
written (R273, R279); else Flags are ORed, `write` stores the result, and the pc advances (R130 step 11). -/
def signal (c : Cause) (write : State → State) (s : State) : Out :=
  if causeTraps s.fcsr.enables c then raise (.floatingPoint c) (setCause c s)
  else .next (advance (write (orFlags c.conds (setCause c s))))

/-! The checks every instruction makes before its own rule, in the order of R130 -/

/-- IMPL(m) (R5, R263). -/
def implemented (c : Config) (m : Mnemonic) : Bool := !c.lacking.contains m

/-- `unimplemented_op(w, operand bits, FCSR)` (R5, R123). -/
def unimplementedOp (s : State) (i : Instr) (operands : List (BitVec 64)) : Bool :=
  s.cfg.unimplemented.contains ⟨encode i, operands, s.fcsr⟩

/-- Steps 3, 4 and 5 of R130: Coprocessor Unusable (R262), a misaligned condition code (R84, R85), Reserved Instruction
(R263). -/
def guarded (i : Instr) (s : State) (body : Out) : Out :=
  if !s.cu1 then raise (.coprocessorUnusable 1#2) s
  else if !i.wellFormed then .refused .ccAlignment
  else if !implemented s.cfg i.mnemonic then raise .reservedInstruction s
  else body

/-- Step 9 of R130: Unimplemented Operation, which always traps (R123, R265). -/
def unlessUnimplemented (i : Instr) (operands : List (BitVec 64)) (s : State) (body : Out) : Out :=
  if unimplementedOp s i operands then raise (.floatingPoint causeE) (setCause causeE s) else body

/-- 64 bits that are a draw (R8): two numbers of the counter. -/
def draw64 (n : Nat) : BitVec 64 := Config.draw n ++ Config.draw (n + 1)

/-- A register whose value has become unpredictable (R10): free bits, and no format it could be read in. -/
def loseFpr (s : State) (r : FReg) : State :=
  { setFpr r ⟨.none, draw64 s.draws⟩ s with draws := s.draws + 2 }

/-- An unpredictable result of format f in register fd. -/
def drawFpr (fd : FReg) (f : Fmt) (s : State) : State :=
  storeFpr fd f (draw64 s.draws) { s with draws := s.draws + 2 }

/-- An unpredictable result in condition code n. -/
def drawCc (n : CcNum) (s : State) : State :=
  setCc n ((Config.draw s.draws).getLsbD 0) { s with draws := s.draws + 1 }

/-- One more draw has been made on the way to a next state. -/
def countDraw : Out → Out
  | .next t => .next { t with draws := t.draws + 1 }
  | .fault f => .fault f
  | .refused r => .refused r

/-- The conditions of an instruction whose result is unpredictable: a free set of those its page lets it raise (R267,
R271). E is not among them, since nothing but `unimplemented_op` raises it (R265). -/
def drawnConds (i : Instr) (s : State) : Conds := commonConds (Config.drawConds s.draws) (listedConds s.cfg i)

/-- An instruction whose page calls its result unpredictable. The spec's own treatment refuses it (R9); where the
configuration asks for draws, it signals a free set of conditions by R121, and where none of them traps the registers in
`lost` and the result become free values and the instruction completes (log 16). A trap leaves all of them as they were
(R273). DESIGN CHOICE (log 16): the result is written last, so a destination that is also one of the `lost` registers
holds the free result, readable in the result's format; R10 and the pages do not say which of the two it holds. -/
def unpredictableResult (why : Refusal) (i : Instr) (lost : List FReg) (write : State → State) (s : State) : Out :=
  match s.cfg.unpredictable with
  | .refuse => .refused why
  | .draw => countDraw (signal (causeOf (drawnConds i s)) (fun t => write (lost.foldl loseFpr t)) s)

/-- Step 7 of R130 for operands of format f: the 16 FP registers mode. R22 treats every paired form alike, and six pages
call the result unpredictable there. DESIGN CHOICE (log 16): the pages of RECIP1.PS, RSQRT1.PS and RSQRT2.PS say nothing
of that mode (N17), and where draws are asked for their result is drawn like that of the other paired forms. For S and D
the source gives no register model of the mode, so they are refused whatever the configuration (D10). -/
def sixteenMode (i : Instr) (f : Fmt) (write : State → State) (s : State) : Out :=
  match f with
  | .ps => unpredictableResult .sixteenRegisterMode i [] write s
  | .pw => unpredictableResult .sixteenRegisterMode i [] write s
  | _ => .refused .sixteenRegisterMode

/-- Steps 3 to 9 of R130 for an instruction with one register operand of format f; `free` writes a free result. -/
def withOne (i : Instr) (f : Fmt) (fs : FReg) (free : State → State) (s : State) (body : BitVec 64 → Out) : Out :=
  guarded i s <|
    if !s.fp32regs then sixteenMode i f free s
    else
      match valueFpr s fs f with
      | some a => unlessUnimplemented i [a] s (body a)
      | none => unpredictableResult .operandFormat i [fs] free s

/-- Steps 3 to 9 of R130 for an instruction with two register operands of format f; `free` writes a free result. The
format contract is of both operands, for RECIP2 and RSQRT2 by C10. -/
def withTwo (i : Instr) (f : Fmt) (fs ft : FReg) (free : State → State) (s : State) (body : BitVec 64 → BitVec 64 → Out) :
    Out :=
  guarded i s <|
    if !s.fp32regs then sixteenMode i f free s
    else
      match valueFpr s fs f, valueFpr s ft f with
      | some a, some b => unlessUnimplemented i [a, b] s (body a b)
      | _, _ => unpredictableResult .operandFormat i [fs, ft] free s

/-- Steps 3 to 6 and 9 of R130 for a branch, which reads no register and is asked with no operand bits. -/
def withNone (i : Instr) (s : State) (body : Out) : Out :=
  guarded i s <|
    if s.ds.isSome then .refused .branchInDelaySlot
    else unlessUnimplemented i [] s body

end Sys2Proof.Machine
end

