-- ==== Sys2Proof/Machine/Operands.lean ====
section
/-! DEFINITION. The operand forms: the members of a paired value (spec/10_state.md R23), the operand formats of an open
fmt field (spec/30_encoding.md R76), the branch offset (R79, R151), and the lifting of an S or D function to the
register it stands in (spec/46_recip.md R220, R225). -/

namespace Sys2Proof.Machine

/-- PL or the lower word, bits 31..0 (R23). -/
def lowerHalf (x : BitVec 64) : BitVec 32 := x.extractLsb' 0 32

/-- PU or the upper word, bits 63..32 (R23). -/
def upperHalf (x : BitVec 64) : BitVec 32 := x.extractLsb' 32 32

/-- The operand format a fmt name stands for (R76). -/
def operandFmt : InstrFmt → Fmt
  | .s => .s
  | .d => .d
  | .ps => .ps

/-- target_offset: the 16-bit offset shifted left 2 bits and sign extended (R79). -/
def targetOffset (offset : BitVec 16) : Addr := (offset ++ 0#2).signExtend 64

/-- The branch target, (A + 4) + target_offset modulo 2^GPRLEN (R151). -/
def branchTarget (s : State) (offset : BitVec 16) : Addr := addrAdd s (addrAdd s s.pc 4#64) (targetOffset offset)

/-- Where control goes after the delay slot when the branch is not taken, A + 8 (R153). -/
def fallThrough (s : State) : Addr := addrAdd s s.pc 8#64

/-- The two halves of a result with the union of their conditions (R121). -/
def pairUp (upper lower : BitVec 32 × Conds) : BitVec 64 × Conds := (upper.1 ++ lower.1, unionConds upper.2 lower.2)

/-- A function of one S or D operand on a register value of format S, D or PS (R220, R240): the two halves of a PS value
are independent S operands. -/
def liftOne (fS : BitVec 32 → BitVec 32 × Conds) (fD : BitVec 64 → BitVec 64 × Conds) (f : InstrFmt) (x : BitVec 64) :
    BitVec 64 × Conds :=
  match f with
  | .s => (0#32 ++ (fS (lowerHalf x)).1, (fS (lowerHalf x)).2)
  | .d => fD x
  | .ps => pairUp (fS (upperHalf x)) (fS (lowerHalf x))

/-- A function of two S or D operands on register values of format S, D or PS (R225, R245): like halves pair. -/
def liftTwo (fS : BitVec 32 → BitVec 32 → BitVec 32 × Conds) (fD : BitVec 64 → BitVec 64 → BitVec 64 × Conds)
    (f : InstrFmt) (x y : BitVec 64) : BitVec 64 × Conds :=
  match f with
  | .s => (0#32 ++ (fS (lowerHalf x) (lowerHalf y)).1, (fS (lowerHalf x) (lowerHalf y)).2)
  | .d => fD x y
  | .ps => pairUp (fS (upperHalf x) (upperHalf y)) (fS (lowerHalf x) (lowerHalf y))

end Sys2Proof.Machine
end

