-- ==== Sys2Proof/Machine/Branch.lean ====
section
/-! DEFINITION. The branches on any of two or four condition codes (spec/42_bc1any.md). -/

namespace Sys2Proof.Machine

/-- Some of the n consecutive condition codes from cc on equals tf (R150). -/
def anyCc (f : Fcsr) (cc : CcNum) (tf : Bool) : Nat → Bool
  | 0 => false
  | n + 1 => anyCc f cc tf n || fccGet f (cc + BitVec.ofNat 3 n) == tf

/-- The four branches as one operation with the parameters n and tf (R150 to R153, R156): the condition is evaluated
now, the delay slot executes next, and control goes to the target or to A + 8 after it. -/
def branchAny (n : Nat) (tf : Bool) (i : Instr) (cc : CcNum) (offset : BitVec 16) (s : State) : Out :=
  withNone i s <|
    .next (branchTo (if anyCc s.fcsr cc tf n then branchTarget s offset else fallThrough s) s)

/-- BC1ANY2F cc, offset (R157). -/
def execBc1any2f (cc : CcNum) (offset : BitVec 16) (s : State) : Out :=
  branchAny 2 false (.bc1any2f cc offset) cc offset s

/-- BC1ANY2T cc, offset (R158). -/
def execBc1any2t (cc : CcNum) (offset : BitVec 16) (s : State) : Out :=
  branchAny 2 true (.bc1any2t cc offset) cc offset s

/-- BC1ANY4F cc, offset (R159). -/
def execBc1any4f (cc : CcNum) (offset : BitVec 16) (s : State) : Out :=
  branchAny 4 false (.bc1any4f cc offset) cc offset s

/-- BC1ANY4T cc, offset (R160). -/
def execBc1any4t (cc : CcNum) (offset : BitVec 16) (s : State) : Out :=
  branchAny 4 true (.bc1any4t cc offset) cc offset s

end Sys2Proof.Machine
end

