-- ==== Sys2Proof/Machine/Compare.lean ====
section
/-! DEFINITION. The absolute compares CABS.cond.fmt (spec/43_cabs.md): one operation for each operand format, and one
definition for each of the 48 encodings, which gives it the cond field of its condition (R174 to R189). -/

namespace Sys2Proof.Machine

/-- The conditions a compare signals (R170): Invalid Operation or nothing. -/
def invalidIf (v : Bool) : Conds := if v then condV else noConds

/-- CABS.cond.S (R170, R190): one condition code is written. -/
def compareS (cond : BitVec 4) (i : Instr) (cc : CcNum) (fs ft : FReg) (s : State) : Out :=
  withTwo i .s fs ft (drawCc cc) s fun a b =>
    let r := cabs1 s.cfg.nan2008 single cond (lowerHalf a) (lowerHalf b)
    signal (causeOf (invalidIf r.2)) (setCc cc r.1) s

/-- CABS.cond.D (R170, R191): one condition code is written. -/
def compareD (cond : BitVec 4) (i : Instr) (cc : CcNum) (fs ft : FReg) (s : State) : Out :=
  withTwo i .d fs ft (drawCc cc) s fun a b =>
    let r := cabs1 s.cfg.nan2008 double cond a b
    signal (causeOf (invalidIf r.2)) (setCc cc r.1) s

/-- CABS.cond.PS (R170, R192): the lower halves decide cc, the upper halves cc + 1; Invalid Operation in either half is
signalled once. -/
def comparePs (cond : BitVec 4) (i : Instr) (cc : CcNum) (fs ft : FReg) (s : State) : Out :=
  withTwo i .ps fs ft (fun t => drawCc (cc + 1#3) (drawCc cc t)) s fun a b =>
    let lower := cabs1 s.cfg.nan2008 single cond (lowerHalf a) (lowerHalf b)
    let upper := cabs1 s.cfg.nan2008 single cond (upperHalf a) (upperHalf b)
    signal (causeOf (invalidIf (lower.2 || upper.2))) (fun t => setCc (cc + 1#3) upper.1 (setCc cc lower.1 t)) s

/-- CABS.F.S cc, fs, ft (R174). -/
def execCabsFS (cc : CcNum) (fs ft : FReg) (s : State) : Out :=
  compareS 0b0000#4 (.cabsFS cc fs ft) cc fs ft s

/-- CABS.F.D cc, fs, ft (R174). -/
def execCabsFD (cc : CcNum) (fs ft : FReg) (s : State) : Out :=
  compareD 0b0000#4 (.cabsFD cc fs ft) cc fs ft s

/-- CABS.F.PS cc, fs, ft (R174). -/
def execCabsFPs (cc : CcNum) (fs ft : FReg) (s : State) : Out :=
  comparePs 0b0000#4 (.cabsFPs cc fs ft) cc fs ft s

/-- CABS.UN.S cc, fs, ft (R175). -/
def execCabsUnS (cc : CcNum) (fs ft : FReg) (s : State) : Out :=
  compareS 0b0001#4 (.cabsUnS cc fs ft) cc fs ft s

/-- CABS.UN.D cc, fs, ft (R175). -/
def execCabsUnD (cc : CcNum) (fs ft : FReg) (s : State) : Out :=
  compareD 0b0001#4 (.cabsUnD cc fs ft) cc fs ft s

/-- CABS.UN.PS cc, fs, ft (R175). -/
def execCabsUnPs (cc : CcNum) (fs ft : FReg) (s : State) : Out :=
  comparePs 0b0001#4 (.cabsUnPs cc fs ft) cc fs ft s

/-- CABS.EQ.S cc, fs, ft (R176). -/
def execCabsEqS (cc : CcNum) (fs ft : FReg) (s : State) : Out :=
  compareS 0b0010#4 (.cabsEqS cc fs ft) cc fs ft s

/-- CABS.EQ.D cc, fs, ft (R176). -/
def execCabsEqD (cc : CcNum) (fs ft : FReg) (s : State) : Out :=
  compareD 0b0010#4 (.cabsEqD cc fs ft) cc fs ft s

/-- CABS.EQ.PS cc, fs, ft (R176). -/
def execCabsEqPs (cc : CcNum) (fs ft : FReg) (s : State) : Out :=
  comparePs 0b0010#4 (.cabsEqPs cc fs ft) cc fs ft s

/-- CABS.UEQ.S cc, fs, ft (R177). -/
def execCabsUeqS (cc : CcNum) (fs ft : FReg) (s : State) : Out :=
  compareS 0b0011#4 (.cabsUeqS cc fs ft) cc fs ft s

/-- CABS.UEQ.D cc, fs, ft (R177). -/
def execCabsUeqD (cc : CcNum) (fs ft : FReg) (s : State) : Out :=
  compareD 0b0011#4 (.cabsUeqD cc fs ft) cc fs ft s

/-- CABS.UEQ.PS cc, fs, ft (R177). -/
def execCabsUeqPs (cc : CcNum) (fs ft : FReg) (s : State) : Out :=
  comparePs 0b0011#4 (.cabsUeqPs cc fs ft) cc fs ft s

/-- CABS.OLT.S cc, fs, ft (R178). -/
def execCabsOltS (cc : CcNum) (fs ft : FReg) (s : State) : Out :=
  compareS 0b0100#4 (.cabsOltS cc fs ft) cc fs ft s

/-- CABS.OLT.D cc, fs, ft (R178). -/
def execCabsOltD (cc : CcNum) (fs ft : FReg) (s : State) : Out :=
  compareD 0b0100#4 (.cabsOltD cc fs ft) cc fs ft s

/-- CABS.OLT.PS cc, fs, ft (R178). -/
def execCabsOltPs (cc : CcNum) (fs ft : FReg) (s : State) : Out :=
  comparePs 0b0100#4 (.cabsOltPs cc fs ft) cc fs ft s

/-- CABS.ULT.S cc, fs, ft (R179). -/
def execCabsUltS (cc : CcNum) (fs ft : FReg) (s : State) : Out :=
  compareS 0b0101#4 (.cabsUltS cc fs ft) cc fs ft s

/-- CABS.ULT.D cc, fs, ft (R179). -/
def execCabsUltD (cc : CcNum) (fs ft : FReg) (s : State) : Out :=
  compareD 0b0101#4 (.cabsUltD cc fs ft) cc fs ft s

/-- CABS.ULT.PS cc, fs, ft (R179). -/
def execCabsUltPs (cc : CcNum) (fs ft : FReg) (s : State) : Out :=
  comparePs 0b0101#4 (.cabsUltPs cc fs ft) cc fs ft s

/-- CABS.OLE.S cc, fs, ft (R180). -/
def execCabsOleS (cc : CcNum) (fs ft : FReg) (s : State) : Out :=
  compareS 0b0110#4 (.cabsOleS cc fs ft) cc fs ft s

/-- CABS.OLE.D cc, fs, ft (R180). -/
def execCabsOleD (cc : CcNum) (fs ft : FReg) (s : State) : Out :=
  compareD 0b0110#4 (.cabsOleD cc fs ft) cc fs ft s

/-- CABS.OLE.PS cc, fs, ft (R180). -/
def execCabsOlePs (cc : CcNum) (fs ft : FReg) (s : State) : Out :=
  comparePs 0b0110#4 (.cabsOlePs cc fs ft) cc fs ft s

/-- CABS.ULE.S cc, fs, ft (R181). -/
def execCabsUleS (cc : CcNum) (fs ft : FReg) (s : State) : Out :=
  compareS 0b0111#4 (.cabsUleS cc fs ft) cc fs ft s

/-- CABS.ULE.D cc, fs, ft (R181). -/
def execCabsUleD (cc : CcNum) (fs ft : FReg) (s : State) : Out :=
  compareD 0b0111#4 (.cabsUleD cc fs ft) cc fs ft s

/-- CABS.ULE.PS cc, fs, ft (R181). -/
def execCabsUlePs (cc : CcNum) (fs ft : FReg) (s : State) : Out :=
  comparePs 0b0111#4 (.cabsUlePs cc fs ft) cc fs ft s

/-- CABS.SF.S cc, fs, ft (R182). -/
def execCabsSfS (cc : CcNum) (fs ft : FReg) (s : State) : Out :=
  compareS 0b1000#4 (.cabsSfS cc fs ft) cc fs ft s

/-- CABS.SF.D cc, fs, ft (R182). -/
def execCabsSfD (cc : CcNum) (fs ft : FReg) (s : State) : Out :=
  compareD 0b1000#4 (.cabsSfD cc fs ft) cc fs ft s

/-- CABS.SF.PS cc, fs, ft (R182). -/
def execCabsSfPs (cc : CcNum) (fs ft : FReg) (s : State) : Out :=
  comparePs 0b1000#4 (.cabsSfPs cc fs ft) cc fs ft s

/-- CABS.NGLE.S cc, fs, ft (R183). -/
def execCabsNgleS (cc : CcNum) (fs ft : FReg) (s : State) : Out :=
  compareS 0b1001#4 (.cabsNgleS cc fs ft) cc fs ft s

/-- CABS.NGLE.D cc, fs, ft (R183). -/
def execCabsNgleD (cc : CcNum) (fs ft : FReg) (s : State) : Out :=
  compareD 0b1001#4 (.cabsNgleD cc fs ft) cc fs ft s

/-- CABS.NGLE.PS cc, fs, ft (R183). -/
def execCabsNglePs (cc : CcNum) (fs ft : FReg) (s : State) : Out :=
  comparePs 0b1001#4 (.cabsNglePs cc fs ft) cc fs ft s

/-- CABS.SEQ.S cc, fs, ft (R184). -/
def execCabsSeqS (cc : CcNum) (fs ft : FReg) (s : State) : Out :=
  compareS 0b1010#4 (.cabsSeqS cc fs ft) cc fs ft s

/-- CABS.SEQ.D cc, fs, ft (R184). -/
def execCabsSeqD (cc : CcNum) (fs ft : FReg) (s : State) : Out :=
  compareD 0b1010#4 (.cabsSeqD cc fs ft) cc fs ft s

/-- CABS.SEQ.PS cc, fs, ft (R184). -/
def execCabsSeqPs (cc : CcNum) (fs ft : FReg) (s : State) : Out :=
  comparePs 0b1010#4 (.cabsSeqPs cc fs ft) cc fs ft s

/-- CABS.NGL.S cc, fs, ft (R185). -/
def execCabsNglS (cc : CcNum) (fs ft : FReg) (s : State) : Out :=
  compareS 0b1011#4 (.cabsNglS cc fs ft) cc fs ft s

/-- CABS.NGL.D cc, fs, ft (R185). -/
def execCabsNglD (cc : CcNum) (fs ft : FReg) (s : State) : Out :=
  compareD 0b1011#4 (.cabsNglD cc fs ft) cc fs ft s

/-- CABS.NGL.PS cc, fs, ft (R185). -/
def execCabsNglPs (cc : CcNum) (fs ft : FReg) (s : State) : Out :=
  comparePs 0b1011#4 (.cabsNglPs cc fs ft) cc fs ft s

/-- CABS.LT.S cc, fs, ft (R186). -/
def execCabsLtS (cc : CcNum) (fs ft : FReg) (s : State) : Out :=
  compareS 0b1100#4 (.cabsLtS cc fs ft) cc fs ft s

/-- CABS.LT.D cc, fs, ft (R186). -/
def execCabsLtD (cc : CcNum) (fs ft : FReg) (s : State) : Out :=
  compareD 0b1100#4 (.cabsLtD cc fs ft) cc fs ft s

/-- CABS.LT.PS cc, fs, ft (R186). -/
def execCabsLtPs (cc : CcNum) (fs ft : FReg) (s : State) : Out :=
  comparePs 0b1100#4 (.cabsLtPs cc fs ft) cc fs ft s

/-- CABS.NGE.S cc, fs, ft (R187). -/
def execCabsNgeS (cc : CcNum) (fs ft : FReg) (s : State) : Out :=
  compareS 0b1101#4 (.cabsNgeS cc fs ft) cc fs ft s

/-- CABS.NGE.D cc, fs, ft (R187). -/
def execCabsNgeD (cc : CcNum) (fs ft : FReg) (s : State) : Out :=
  compareD 0b1101#4 (.cabsNgeD cc fs ft) cc fs ft s

/-- CABS.NGE.PS cc, fs, ft (R187). -/
def execCabsNgePs (cc : CcNum) (fs ft : FReg) (s : State) : Out :=
  comparePs 0b1101#4 (.cabsNgePs cc fs ft) cc fs ft s

/-- CABS.LE.S cc, fs, ft (R188). -/
def execCabsLeS (cc : CcNum) (fs ft : FReg) (s : State) : Out :=
  compareS 0b1110#4 (.cabsLeS cc fs ft) cc fs ft s

/-- CABS.LE.D cc, fs, ft (R188). -/
def execCabsLeD (cc : CcNum) (fs ft : FReg) (s : State) : Out :=
  compareD 0b1110#4 (.cabsLeD cc fs ft) cc fs ft s

/-- CABS.LE.PS cc, fs, ft (R188). -/
def execCabsLePs (cc : CcNum) (fs ft : FReg) (s : State) : Out :=
  comparePs 0b1110#4 (.cabsLePs cc fs ft) cc fs ft s

/-- CABS.NGT.S cc, fs, ft (R189). -/
def execCabsNgtS (cc : CcNum) (fs ft : FReg) (s : State) : Out :=
  compareS 0b1111#4 (.cabsNgtS cc fs ft) cc fs ft s

/-- CABS.NGT.D cc, fs, ft (R189). -/
def execCabsNgtD (cc : CcNum) (fs ft : FReg) (s : State) : Out :=
  compareD 0b1111#4 (.cabsNgtD cc fs ft) cc fs ft s

/-- CABS.NGT.PS cc, fs, ft (R189). -/
def execCabsNgtPs (cc : CcNum) (fs ft : FReg) (s : State) : Out :=
  comparePs 0b1111#4 (.cabsNgtPs cc fs ft) cc fs ft s

end Sys2Proof.Machine
end

