-- ==== Sys2Proof/Machine/Convert.lean ====
section
/-! DEFINITION. CVT.PS.PW and CVT.PW.PS (spec/44_cvt.md). -/

namespace Sys2Proof.Machine

/-- A conversion of the two halves of a register, each on its own (R200, R203): the upper gives the upper, the lower the
lower. -/
def convertPair (half : BitVec 32 → BitVec 32 × Conds) (source dest : Fmt) (i : Instr) (fd fs : FReg) (s : State) : Out :=
  withOne i source fs (drawFpr fd dest) s fun x =>
    let r := pairUp (half (upperHalf x)) (half (lowerHalf x))
    signal (causeOf r.2) (storeFpr fd dest r.1) s

/-- CVT.PS.PW fd, fs (R200, R202). -/
def execCvtPsPw (fd fs : FReg) (s : State) : Out :=
  convertPair (convertWS s.cfg s.fcsr) .pw .ps (.cvtPsPw fd fs) fd fs s

/-- CVT.PW.PS fd, fs (R203, R205). -/
def execCvtPwPs (fd fs : FReg) (s : State) : Out :=
  convertPair (convertSW s.fcsr) .ps .pw (.cvtPwPs fd fs) fd fs s

end Sys2Proof.Machine
end

