-- ==== Sys2Proof/Machine/Recip.lean ====
section
/-! DEFINITION. RECIP1.fmt and RECIP2.fmt (spec/46_recip.md). -/

namespace Sys2Proof.Machine

/-- RECIP1.fmt (R220). -/
def recipOne (f : InstrFmt) (i : Instr) (fd fs : FReg) (s : State) : Out :=
  withOne i (operandFmt f) fs (drawFpr fd (operandFmt f)) s fun x =>
    let r := liftOne (recip1S s.cfg s.fcsr) (recip1D s.cfg s.fcsr) f x
    signal (causeOf r.2) (storeFpr fd (operandFmt f) r.1) s

/-- RECIP2.fmt (R225). -/
def recipTwo (f : InstrFmt) (i : Instr) (fd fs ft : FReg) (s : State) : Out :=
  withTwo i (operandFmt f) fs ft (drawFpr fd (operandFmt f)) s fun x y =>
    let r := liftTwo (recip2S s.cfg s.fcsr) (recip2D s.cfg s.fcsr) f x y
    signal (causeOf r.2) (storeFpr fd (operandFmt f) r.1) s

/-- RECIP1.S fd, fs (R222). -/
def execRecip1S (fd fs : FReg) (s : State) : Out :=
  recipOne .s (.recip1S fd fs) fd fs s

/-- RECIP1.D fd, fs (R223). -/
def execRecip1D (fd fs : FReg) (s : State) : Out :=
  recipOne .d (.recip1D fd fs) fd fs s

/-- RECIP1.PS fd, fs (R224). -/
def execRecip1Ps (fd fs : FReg) (s : State) : Out :=
  recipOne .ps (.recip1Ps fd fs) fd fs s

/-- RECIP2.S fd, fs, ft (R227). -/
def execRecip2S (fd fs ft : FReg) (s : State) : Out :=
  recipTwo .s (.recip2S fd fs ft) fd fs ft s

/-- RECIP2.D fd, fs, ft (R228). -/
def execRecip2D (fd fs ft : FReg) (s : State) : Out :=
  recipTwo .d (.recip2D fd fs ft) fd fs ft s

/-- RECIP2.PS fd, fs, ft (R229). -/
def execRecip2Ps (fd fs ft : FReg) (s : State) : Out :=
  recipTwo .ps (.recip2Ps fd fs ft) fd fs ft s

end Sys2Proof.Machine
end

