-- ==== Sys2Proof/Machine/Reduction.lean ====
section
/-! DEFINITION. ADDR.PS and MULR.PS (spec/41_addr_ps.md, spec/45_mulr_ps.md). -/

namespace Sys2Proof.Machine

/-- A reduction (R140, R215): the members of ft combine into the lower result, those of fs into the upper; the
conditions of both are signalled together. -/
def reduce (op : Config → Fcsr → BitVec 32 → BitVec 32 → BitVec 32 × Conds) (i : Instr) (fd fs ft : FReg) (s : State) :
    Out :=
  withTwo i .ps fs ft (drawFpr fd .ps) s fun a b =>
    let r := pairUp (op s.cfg s.fcsr (lowerHalf a) (upperHalf a)) (op s.cfg s.fcsr (lowerHalf b) (upperHalf b))
    signal (causeOf r.2) (storeFpr fd .ps r.1) s

/-- ADDR.PS fd, fs, ft (R140, R141). -/
def execAddrPs (fd fs ft : FReg) (s : State) : Out :=
  reduce addS (.addrPs fd fs ft) fd fs ft s

/-- MULR.PS fd, fs, ft (R215, R217). -/
def execMulrPs (fd fs ft : FReg) (s : State) : Out :=
  reduce mulS (.mulrPs fd fs ft) fd fs ft s

end Sys2Proof.Machine
end

