-- ==== Sys2Proof/Machine/Rsqrt.lean ====
section
/-! DEFINITION. RSQRT1.fmt and RSQRT2.fmt (spec/47_rsqrt.md). -/

namespace Sys2Proof.Machine

/-- RSQRT1.fmt (R240). -/
def rsqrtOne (f : InstrFmt) (i : Instr) (fd fs : FReg) (s : State) : Out :=
  withOne i (operandFmt f) fs (drawFpr fd (operandFmt f)) s fun x =>
    let r := liftOne (rsqrt1S s.cfg s.fcsr) (rsqrt1D s.cfg s.fcsr) f x
    signal (causeOf r.2) (storeFpr fd (operandFmt f) r.1) s

/-- RSQRT2.fmt (R245). -/
def rsqrtTwo (f : InstrFmt) (i : Instr) (fd fs ft : FReg) (s : State) : Out :=
  withTwo i (operandFmt f) fs ft (drawFpr fd (operandFmt f)) s fun x y =>
    let r := liftTwo (rsqrt2S s.cfg s.fcsr) (rsqrt2D s.cfg s.fcsr) f x y
    signal (causeOf r.2) (storeFpr fd (operandFmt f) r.1) s

/-- RSQRT1.S fd, fs (R242). -/
def execRsqrt1S (fd fs : FReg) (s : State) : Out :=
  rsqrtOne .s (.rsqrt1S fd fs) fd fs s

/-- RSQRT1.D fd, fs (R243). -/
def execRsqrt1D (fd fs : FReg) (s : State) : Out :=
  rsqrtOne .d (.rsqrt1D fd fs) fd fs s

/-- RSQRT1.PS fd, fs (R244). -/
def execRsqrt1Ps (fd fs : FReg) (s : State) : Out :=
  rsqrtOne .ps (.rsqrt1Ps fd fs) fd fs s

/-- RSQRT2.S fd, fs, ft (R247). -/
def execRsqrt2S (fd fs ft : FReg) (s : State) : Out :=
  rsqrtTwo .s (.rsqrt2S fd fs ft) fd fs ft s

/-- RSQRT2.D fd, fs, ft (R248). -/
def execRsqrt2D (fd fs ft : FReg) (s : State) : Out :=
  rsqrtTwo .d (.rsqrt2D fd fs ft) fd fs ft s

/-- RSQRT2.PS fd, fs, ft (R249). -/
def execRsqrt2Ps (fd fs ft : FReg) (s : State) : Out :=
  rsqrtTwo .ps (.rsqrt2Ps fd fs ft) fd fs ft s

end Sys2Proof.Machine
end

