-- ==== Sys2Proof/Machine/Dispatch.lean ====
section
/-! DEFINITION. The meaning of an instruction: one arm per constructor of Instr. -/

namespace Sys2Proof.Machine

def exec (i : Instr) (s : State) : Host.Outcome State Fault Refusal :=
  match i with
  | .addrPs fd fs ft => Sys2Proof.Machine.execAddrPs fd fs ft s
  | .bc1any2f cc offset => Sys2Proof.Machine.execBc1any2f cc offset s
  | .bc1any2t cc offset => Sys2Proof.Machine.execBc1any2t cc offset s
  | .bc1any4f cc offset => Sys2Proof.Machine.execBc1any4f cc offset s
  | .bc1any4t cc offset => Sys2Proof.Machine.execBc1any4t cc offset s
  | .cabsFS cc fs ft => Sys2Proof.Machine.execCabsFS cc fs ft s
  | .cabsFD cc fs ft => Sys2Proof.Machine.execCabsFD cc fs ft s
  | .cabsFPs cc fs ft => Sys2Proof.Machine.execCabsFPs cc fs ft s
  | .cabsUnS cc fs ft => Sys2Proof.Machine.execCabsUnS cc fs ft s
  | .cabsUnD cc fs ft => Sys2Proof.Machine.execCabsUnD cc fs ft s
  | .cabsUnPs cc fs ft => Sys2Proof.Machine.execCabsUnPs cc fs ft s
  | .cabsEqS cc fs ft => Sys2Proof.Machine.execCabsEqS cc fs ft s
  | .cabsEqD cc fs ft => Sys2Proof.Machine.execCabsEqD cc fs ft s
  | .cabsEqPs cc fs ft => Sys2Proof.Machine.execCabsEqPs cc fs ft s
  | .cabsUeqS cc fs ft => Sys2Proof.Machine.execCabsUeqS cc fs ft s
  | .cabsUeqD cc fs ft => Sys2Proof.Machine.execCabsUeqD cc fs ft s
  | .cabsUeqPs cc fs ft => Sys2Proof.Machine.execCabsUeqPs cc fs ft s
  | .cabsOltS cc fs ft => Sys2Proof.Machine.execCabsOltS cc fs ft s
  | .cabsOltD cc fs ft => Sys2Proof.Machine.execCabsOltD cc fs ft s
  | .cabsOltPs cc fs ft => Sys2Proof.Machine.execCabsOltPs cc fs ft s
  | .cabsUltS cc fs ft => Sys2Proof.Machine.execCabsUltS cc fs ft s
  | .cabsUltD cc fs ft => Sys2Proof.Machine.execCabsUltD cc fs ft s
  | .cabsUltPs cc fs ft => Sys2Proof.Machine.execCabsUltPs cc fs ft s
  | .cabsOleS cc fs ft => Sys2Proof.Machine.execCabsOleS cc fs ft s
  | .cabsOleD cc fs ft => Sys2Proof.Machine.execCabsOleD cc fs ft s
  | .cabsOlePs cc fs ft => Sys2Proof.Machine.execCabsOlePs cc fs ft s
  | .cabsUleS cc fs ft => Sys2Proof.Machine.execCabsUleS cc fs ft s
  | .cabsUleD cc fs ft => Sys2Proof.Machine.execCabsUleD cc fs ft s
  | .cabsUlePs cc fs ft => Sys2Proof.Machine.execCabsUlePs cc fs ft s
  | .cabsSfS cc fs ft => Sys2Proof.Machine.execCabsSfS cc fs ft s
  | .cabsSfD cc fs ft => Sys2Proof.Machine.execCabsSfD cc fs ft s
  | .cabsSfPs cc fs ft => Sys2Proof.Machine.execCabsSfPs cc fs ft s
  | .cabsNgleS cc fs ft => Sys2Proof.Machine.execCabsNgleS cc fs ft s
  | .cabsNgleD cc fs ft => Sys2Proof.Machine.execCabsNgleD cc fs ft s
  | .cabsNglePs cc fs ft => Sys2Proof.Machine.execCabsNglePs cc fs ft s
  | .cabsSeqS cc fs ft => Sys2Proof.Machine.execCabsSeqS cc fs ft s
  | .cabsSeqD cc fs ft => Sys2Proof.Machine.execCabsSeqD cc fs ft s
  | .cabsSeqPs cc fs ft => Sys2Proof.Machine.execCabsSeqPs cc fs ft s
  | .cabsNglS cc fs ft => Sys2Proof.Machine.execCabsNglS cc fs ft s
  | .cabsNglD cc fs ft => Sys2Proof.Machine.execCabsNglD cc fs ft s
  | .cabsNglPs cc fs ft => Sys2Proof.Machine.execCabsNglPs cc fs ft s
  | .cabsLtS cc fs ft => Sys2Proof.Machine.execCabsLtS cc fs ft s
  | .cabsLtD cc fs ft => Sys2Proof.Machine.execCabsLtD cc fs ft s
  | .cabsLtPs cc fs ft => Sys2Proof.Machine.execCabsLtPs cc fs ft s
  | .cabsNgeS cc fs ft => Sys2Proof.Machine.execCabsNgeS cc fs ft s
  | .cabsNgeD cc fs ft => Sys2Proof.Machine.execCabsNgeD cc fs ft s
  | .cabsNgePs cc fs ft => Sys2Proof.Machine.execCabsNgePs cc fs ft s
  | .cabsLeS cc fs ft => Sys2Proof.Machine.execCabsLeS cc fs ft s
  | .cabsLeD cc fs ft => Sys2Proof.Machine.execCabsLeD cc fs ft s
  | .cabsLePs cc fs ft => Sys2Proof.Machine.execCabsLePs cc fs ft s
  | .cabsNgtS cc fs ft => Sys2Proof.Machine.execCabsNgtS cc fs ft s
  | .cabsNgtD cc fs ft => Sys2Proof.Machine.execCabsNgtD cc fs ft s
  | .cabsNgtPs cc fs ft => Sys2Proof.Machine.execCabsNgtPs cc fs ft s
  | .cvtPsPw fd fs => Sys2Proof.Machine.execCvtPsPw fd fs s
  | .cvtPwPs fd fs => Sys2Proof.Machine.execCvtPwPs fd fs s
  | .mulrPs fd fs ft => Sys2Proof.Machine.execMulrPs fd fs ft s
  | .recip1S fd fs => Sys2Proof.Machine.execRecip1S fd fs s
  | .recip1D fd fs => Sys2Proof.Machine.execRecip1D fd fs s
  | .recip1Ps fd fs => Sys2Proof.Machine.execRecip1Ps fd fs s
  | .recip2S fd fs ft => Sys2Proof.Machine.execRecip2S fd fs ft s
  | .recip2D fd fs ft => Sys2Proof.Machine.execRecip2D fd fs ft s
  | .recip2Ps fd fs ft => Sys2Proof.Machine.execRecip2Ps fd fs ft s
  | .rsqrt1S fd fs => Sys2Proof.Machine.execRsqrt1S fd fs s
  | .rsqrt1D fd fs => Sys2Proof.Machine.execRsqrt1D fd fs s
  | .rsqrt1Ps fd fs => Sys2Proof.Machine.execRsqrt1Ps fd fs s
  | .rsqrt2S fd fs ft => Sys2Proof.Machine.execRsqrt2S fd fs ft s
  | .rsqrt2D fd fs ft => Sys2Proof.Machine.execRsqrt2D fd fs ft s
  | .rsqrt2Ps fd fs ft => Sys2Proof.Machine.execRsqrt2Ps fd fs ft s

end Sys2Proof.Machine
end

