-- ==== Sys2Proof/Machine/Cycle.lean ====
section
/-! DEFINITION. The instruction cycle: the checks of spec/70_reset_and_hazards.md R313 and spec/40_fp_common.md R130
around the meaning of the fetched instruction. -/

namespace Sys2Proof.Machine

/-- The refusal of a decoder verdict (R83 to R88). -/
def refusalOf : Reject → Refusal
  | .notInScope => .notInScope
  | .reservedNd => .reservedNd
  | .ccAlignment => .ccAlignment

/-- The outcome for a fetched word (R130 steps 2 to 4). A word of the table goes to `exec`, whose meanings begin with
the Coprocessor Unusable check of step 3; a COP1 word that is none of the 68 takes that check here, before its refusal
(R262, log 15). -/
def runWord (w : Word) (s : State) : Out :=
  match decode w with
  | .instr i => exec i s
  | .reject r => if isCop1 w && !s.cu1 then raise (.coprocessorUnusable 1#2) s else .refused (refusalOf r)

/-- One instruction cycle (R313): no step from a final state (R303); Address Error on a misaligned fetch (R54); stuck
where the text is undefined (R55); else the fetched word runs. -/
def cycle (s : State) : Out :=
  if isFinal s then .fault .final
  else if !wordAligned s.pc then raise (.addressErrorFetch s.pc) s
  else
    match fetchWord s s.pc with
    | none => .fault .stuck
    | some w => runWord w s

end Sys2Proof.Machine
end

