-- ==== Sys2Proof/Machine/Step.lean ====
section
/-! DEFINITION. One step of the machine, and the loading of one instruction where the next step fetches it. -/

namespace Sys2Proof.Machine

/-- One step: one instruction cycle (R312, R313). -/
def step (s : State) : Host.Outcome State Fault Refusal := cycle s

/-- The instruction whose low `nbits` bits are `w` stored at pc, in the byte order of the configuration: the load of a
program from outside the machine (log 6). -/
def State.withFetchWord (s : State) (nbits w : Nat) : State :=
  loadWord s s.pc (BitVec.ofNat 32 (w % 2 ^ nbits))

end Sys2Proof.Machine
end

