-- ==== Sys2Proof/Safety.lean ====
section
/-! DEFINITION. The terms claims use: when an instruction executes normally, what it reads and writes
(spec/10_state.md R40), which states are reasonable, how a run may end (spec/70_reset_and_hazards.md R300 to R303), and
the named accuracy hypotheses of R221 and R241. -/

namespace Sys2Proof.Machine

/-! When an instruction executes (R130) -/

/-- Steps 3, 4 and 5 of R130 pass: coprocessor 1 is usable, the condition-code operand is aligned, and the
implementation has the instruction. -/
def Usable (i : Instr) (s : State) : Prop :=
  s.cu1 = true ∧ i.wellFormed = true ∧ implemented s.cfg i.mnemonic = true

/-- Register r may be read in format f (R21). -/
def Readable (s : State) (r : FReg) (f : Fmt) : Prop := tagAllows (getFpr s r).tag f = true

/-- Steps 3 to 9 of R130 pass for an instruction with one register operand. -/
def ExecutesOne (i : Instr) (f : Fmt) (fs : FReg) (s : State) : Prop :=
  Usable i s ∧ s.fp32regs = true ∧ Readable s fs f ∧ unimplementedOp s i [operandBits s fs f] = false

/-- Steps 3 to 9 of R130 pass for an instruction with two register operands. -/
def ExecutesTwo (i : Instr) (f : Fmt) (fs ft : FReg) (s : State) : Prop :=
  Usable i s ∧ s.fp32regs = true ∧ Readable s fs f ∧ Readable s ft f ∧
    unimplementedOp s i [operandBits s fs f, operandBits s ft f] = false

/-- Steps 3 to 6 and 9 of R130 pass for a branch. -/
def ExecutesBranch (i : Instr) (s : State) : Prop :=
  Usable i s ∧ s.ds = none ∧ unimplementedOp s i [] = false

/-! What an instruction reads and writes (R40) -/

/-- The instruction is one of the four branches (R155). -/
def isBranch : Instr → Bool
  | .addrPs _ _ _ => false
  | .bc1any2f _ _ => true
  | .bc1any2t _ _ => true
  | .bc1any4f _ _ => true
  | .bc1any4t _ _ => true
  | .cabsFS _ _ _ => false
  | .cabsFD _ _ _ => false
  | .cabsFPs _ _ _ => false
  | .cabsUnS _ _ _ => false
  | .cabsUnD _ _ _ => false
  | .cabsUnPs _ _ _ => false
  | .cabsEqS _ _ _ => false
  | .cabsEqD _ _ _ => false
  | .cabsEqPs _ _ _ => false
  | .cabsUeqS _ _ _ => false
  | .cabsUeqD _ _ _ => false
  | .cabsUeqPs _ _ _ => false
  | .cabsOltS _ _ _ => false
  | .cabsOltD _ _ _ => false
  | .cabsOltPs _ _ _ => false
  | .cabsUltS _ _ _ => false
  | .cabsUltD _ _ _ => false
  | .cabsUltPs _ _ _ => false
  | .cabsOleS _ _ _ => false
  | .cabsOleD _ _ _ => false
  | .cabsOlePs _ _ _ => false
  | .cabsUleS _ _ _ => false
  | .cabsUleD _ _ _ => false
  | .cabsUlePs _ _ _ => false
  | .cabsSfS _ _ _ => false
  | .cabsSfD _ _ _ => false
  | .cabsSfPs _ _ _ => false
  | .cabsNgleS _ _ _ => false
  | .cabsNgleD _ _ _ => false
  | .cabsNglePs _ _ _ => false
  | .cabsSeqS _ _ _ => false
  | .cabsSeqD _ _ _ => false
  | .cabsSeqPs _ _ _ => false
  | .cabsNglS _ _ _ => false
  | .cabsNglD _ _ _ => false
  | .cabsNglPs _ _ _ => false
  | .cabsLtS _ _ _ => false
  | .cabsLtD _ _ _ => false
  | .cabsLtPs _ _ _ => false
  | .cabsNgeS _ _ _ => false
  | .cabsNgeD _ _ _ => false
  | .cabsNgePs _ _ _ => false
  | .cabsLeS _ _ _ => false
  | .cabsLeD _ _ _ => false
  | .cabsLePs _ _ _ => false
  | .cabsNgtS _ _ _ => false
  | .cabsNgtD _ _ _ => false
  | .cabsNgtPs _ _ _ => false
  | .cvtPsPw _ _ => false
  | .cvtPwPs _ _ => false
  | .mulrPs _ _ _ => false
  | .recip1S _ _ => false
  | .recip1D _ _ => false
  | .recip1Ps _ _ => false
  | .recip2S _ _ _ => false
  | .recip2D _ _ _ => false
  | .recip2Ps _ _ _ => false
  | .rsqrt1S _ _ => false
  | .rsqrt1D _ _ => false
  | .rsqrt1Ps _ _ => false
  | .rsqrt2S _ _ _ => false
  | .rsqrt2D _ _ _ => false
  | .rsqrt2Ps _ _ _ => false

/-- The instruction is one of the 48 compares. -/
def isCompare : Instr → Bool
  | .addrPs _ _ _ => false
  | .bc1any2f _ _ => false
  | .bc1any2t _ _ => false
  | .bc1any4f _ _ => false
  | .bc1any4t _ _ => false
  | .cabsFS _ _ _ => true
  | .cabsFD _ _ _ => true
  | .cabsFPs _ _ _ => true
  | .cabsUnS _ _ _ => true
  | .cabsUnD _ _ _ => true
  | .cabsUnPs _ _ _ => true
  | .cabsEqS _ _ _ => true
  | .cabsEqD _ _ _ => true
  | .cabsEqPs _ _ _ => true
  | .cabsUeqS _ _ _ => true
  | .cabsUeqD _ _ _ => true
  | .cabsUeqPs _ _ _ => true
  | .cabsOltS _ _ _ => true
  | .cabsOltD _ _ _ => true
  | .cabsOltPs _ _ _ => true
  | .cabsUltS _ _ _ => true
  | .cabsUltD _ _ _ => true
  | .cabsUltPs _ _ _ => true
  | .cabsOleS _ _ _ => true
  | .cabsOleD _ _ _ => true
  | .cabsOlePs _ _ _ => true
  | .cabsUleS _ _ _ => true
  | .cabsUleD _ _ _ => true
  | .cabsUlePs _ _ _ => true
  | .cabsSfS _ _ _ => true
  | .cabsSfD _ _ _ => true
  | .cabsSfPs _ _ _ => true
  | .cabsNgleS _ _ _ => true
  | .cabsNgleD _ _ _ => true
  | .cabsNglePs _ _ _ => true
  | .cabsSeqS _ _ _ => true
  | .cabsSeqD _ _ _ => true
  | .cabsSeqPs _ _ _ => true
  | .cabsNglS _ _ _ => true
  | .cabsNglD _ _ _ => true
  | .cabsNglPs _ _ _ => true
  | .cabsLtS _ _ _ => true
  | .cabsLtD _ _ _ => true
  | .cabsLtPs _ _ _ => true
  | .cabsNgeS _ _ _ => true
  | .cabsNgeD _ _ _ => true
  | .cabsNgePs _ _ _ => true
  | .cabsLeS _ _ _ => true
  | .cabsLeD _ _ _ => true
  | .cabsLePs _ _ _ => true
  | .cabsNgtS _ _ _ => true
  | .cabsNgtD _ _ _ => true
  | .cabsNgtPs _ _ _ => true
  | .cvtPsPw _ _ => false
  | .cvtPwPs _ _ => false
  | .mulrPs _ _ _ => false
  | .recip1S _ _ => false
  | .recip1D _ _ => false
  | .recip1Ps _ _ => false
  | .recip2S _ _ _ => false
  | .recip2D _ _ _ => false
  | .recip2Ps _ _ _ => false
  | .rsqrt1S _ _ => false
  | .rsqrt1D _ _ => false
  | .rsqrt1Ps _ _ => false
  | .rsqrt2S _ _ _ => false
  | .rsqrt2D _ _ _ => false
  | .rsqrt2Ps _ _ _ => false

/-- The register an instruction writes (R20, R40): fd, or none for a branch or a compare. -/
def destReg : Instr → Option FReg
  | .addrPs fd _ _ => some fd
  | .bc1any2f _ _ => none
  | .bc1any2t _ _ => none
  | .bc1any4f _ _ => none
  | .bc1any4t _ _ => none
  | .cabsFS _ _ _ => none
  | .cabsFD _ _ _ => none
  | .cabsFPs _ _ _ => none
  | .cabsUnS _ _ _ => none
  | .cabsUnD _ _ _ => none
  | .cabsUnPs _ _ _ => none
  | .cabsEqS _ _ _ => none
  | .cabsEqD _ _ _ => none
  | .cabsEqPs _ _ _ => none
  | .cabsUeqS _ _ _ => none
  | .cabsUeqD _ _ _ => none
  | .cabsUeqPs _ _ _ => none
  | .cabsOltS _ _ _ => none
  | .cabsOltD _ _ _ => none
  | .cabsOltPs _ _ _ => none
  | .cabsUltS _ _ _ => none
  | .cabsUltD _ _ _ => none
  | .cabsUltPs _ _ _ => none
  | .cabsOleS _ _ _ => none
  | .cabsOleD _ _ _ => none
  | .cabsOlePs _ _ _ => none
  | .cabsUleS _ _ _ => none
  | .cabsUleD _ _ _ => none
  | .cabsUlePs _ _ _ => none
  | .cabsSfS _ _ _ => none
  | .cabsSfD _ _ _ => none
  | .cabsSfPs _ _ _ => none
  | .cabsNgleS _ _ _ => none
  | .cabsNgleD _ _ _ => none
  | .cabsNglePs _ _ _ => none
  | .cabsSeqS _ _ _ => none
  | .cabsSeqD _ _ _ => none
  | .cabsSeqPs _ _ _ => none
  | .cabsNglS _ _ _ => none
  | .cabsNglD _ _ _ => none
  | .cabsNglPs _ _ _ => none
  | .cabsLtS _ _ _ => none
  | .cabsLtD _ _ _ => none
  | .cabsLtPs _ _ _ => none
  | .cabsNgeS _ _ _ => none
  | .cabsNgeD _ _ _ => none
  | .cabsNgePs _ _ _ => none
  | .cabsLeS _ _ _ => none
  | .cabsLeD _ _ _ => none
  | .cabsLePs _ _ _ => none
  | .cabsNgtS _ _ _ => none
  | .cabsNgtD _ _ _ => none
  | .cabsNgtPs _ _ _ => none
  | .cvtPsPw fd _ => some fd
  | .cvtPwPs fd _ => some fd
  | .mulrPs fd _ _ => some fd
  | .recip1S fd _ => some fd
  | .recip1D fd _ => some fd
  | .recip1Ps fd _ => some fd
  | .recip2S fd _ _ => some fd
  | .recip2D fd _ _ => some fd
  | .recip2Ps fd _ _ => some fd
  | .rsqrt1S fd _ => some fd
  | .rsqrt1D fd _ => some fd
  | .rsqrt1Ps fd _ => some fd
  | .rsqrt2S fd _ _ => some fd
  | .rsqrt2D fd _ _ => some fd
  | .rsqrt2Ps fd _ _ => some fd

/-- The condition codes an instruction writes (R30, R40): cc, and cc + 1 for a paired-single compare (R192). -/
def ccWritten : Instr → List CcNum
  | .addrPs _ _ _ => []
  | .bc1any2f _ _ => []
  | .bc1any2t _ _ => []
  | .bc1any4f _ _ => []
  | .bc1any4t _ _ => []
  | .cabsFS cc _ _ => [cc]
  | .cabsFD cc _ _ => [cc]
  | .cabsFPs cc _ _ => [cc, cc + 1#3]
  | .cabsUnS cc _ _ => [cc]
  | .cabsUnD cc _ _ => [cc]
  | .cabsUnPs cc _ _ => [cc, cc + 1#3]
  | .cabsEqS cc _ _ => [cc]
  | .cabsEqD cc _ _ => [cc]
  | .cabsEqPs cc _ _ => [cc, cc + 1#3]
  | .cabsUeqS cc _ _ => [cc]
  | .cabsUeqD cc _ _ => [cc]
  | .cabsUeqPs cc _ _ => [cc, cc + 1#3]
  | .cabsOltS cc _ _ => [cc]
  | .cabsOltD cc _ _ => [cc]
  | .cabsOltPs cc _ _ => [cc, cc + 1#3]
  | .cabsUltS cc _ _ => [cc]
  | .cabsUltD cc _ _ => [cc]
  | .cabsUltPs cc _ _ => [cc, cc + 1#3]
  | .cabsOleS cc _ _ => [cc]
  | .cabsOleD cc _ _ => [cc]
  | .cabsOlePs cc _ _ => [cc, cc + 1#3]
  | .cabsUleS cc _ _ => [cc]
  | .cabsUleD cc _ _ => [cc]
  | .cabsUlePs cc _ _ => [cc, cc + 1#3]
  | .cabsSfS cc _ _ => [cc]
  | .cabsSfD cc _ _ => [cc]
  | .cabsSfPs cc _ _ => [cc, cc + 1#3]
  | .cabsNgleS cc _ _ => [cc]
  | .cabsNgleD cc _ _ => [cc]
  | .cabsNglePs cc _ _ => [cc, cc + 1#3]
  | .cabsSeqS cc _ _ => [cc]
  | .cabsSeqD cc _ _ => [cc]
  | .cabsSeqPs cc _ _ => [cc, cc + 1#3]
  | .cabsNglS cc _ _ => [cc]
  | .cabsNglD cc _ _ => [cc]
  | .cabsNglPs cc _ _ => [cc, cc + 1#3]
  | .cabsLtS cc _ _ => [cc]
  | .cabsLtD cc _ _ => [cc]
  | .cabsLtPs cc _ _ => [cc, cc + 1#3]
  | .cabsNgeS cc _ _ => [cc]
  | .cabsNgeD cc _ _ => [cc]
  | .cabsNgePs cc _ _ => [cc, cc + 1#3]
  | .cabsLeS cc _ _ => [cc]
  | .cabsLeD cc _ _ => [cc]
  | .cabsLePs cc _ _ => [cc, cc + 1#3]
  | .cabsNgtS cc _ _ => [cc]
  | .cabsNgtD cc _ _ => [cc]
  | .cabsNgtPs cc _ _ => [cc, cc + 1#3]
  | .cvtPsPw _ _ => []
  | .cvtPwPs _ _ => []
  | .mulrPs _ _ _ => []
  | .recip1S _ _ => []
  | .recip1D _ _ => []
  | .recip1Ps _ _ => []
  | .recip2S _ _ _ => []
  | .recip2D _ _ _ => []
  | .recip2Ps _ _ _ => []
  | .rsqrt1S _ _ => []
  | .rsqrt1D _ _ => []
  | .rsqrt1Ps _ _ => []
  | .rsqrt2S _ _ _ => []
  | .rsqrt2D _ _ _ => []
  | .rsqrt2Ps _ _ _ => []

/-- The registers an instruction reads (R40). -/
def sourceRegs : Instr → List FReg
  | .addrPs _ fs ft => [fs, ft]
  | .bc1any2f _ _ => []
  | .bc1any2t _ _ => []
  | .bc1any4f _ _ => []
  | .bc1any4t _ _ => []
  | .cabsFS _ fs ft => [fs, ft]
  | .cabsFD _ fs ft => [fs, ft]
  | .cabsFPs _ fs ft => [fs, ft]
  | .cabsUnS _ fs ft => [fs, ft]
  | .cabsUnD _ fs ft => [fs, ft]
  | .cabsUnPs _ fs ft => [fs, ft]
  | .cabsEqS _ fs ft => [fs, ft]
  | .cabsEqD _ fs ft => [fs, ft]
  | .cabsEqPs _ fs ft => [fs, ft]
  | .cabsUeqS _ fs ft => [fs, ft]
  | .cabsUeqD _ fs ft => [fs, ft]
  | .cabsUeqPs _ fs ft => [fs, ft]
  | .cabsOltS _ fs ft => [fs, ft]
  | .cabsOltD _ fs ft => [fs, ft]
  | .cabsOltPs _ fs ft => [fs, ft]
  | .cabsUltS _ fs ft => [fs, ft]
  | .cabsUltD _ fs ft => [fs, ft]
  | .cabsUltPs _ fs ft => [fs, ft]
  | .cabsOleS _ fs ft => [fs, ft]
  | .cabsOleD _ fs ft => [fs, ft]
  | .cabsOlePs _ fs ft => [fs, ft]
  | .cabsUleS _ fs ft => [fs, ft]
  | .cabsUleD _ fs ft => [fs, ft]
  | .cabsUlePs _ fs ft => [fs, ft]
  | .cabsSfS _ fs ft => [fs, ft]
  | .cabsSfD _ fs ft => [fs, ft]
  | .cabsSfPs _ fs ft => [fs, ft]
  | .cabsNgleS _ fs ft => [fs, ft]
  | .cabsNgleD _ fs ft => [fs, ft]
  | .cabsNglePs _ fs ft => [fs, ft]
  | .cabsSeqS _ fs ft => [fs, ft]
  | .cabsSeqD _ fs ft => [fs, ft]
  | .cabsSeqPs _ fs ft => [fs, ft]
  | .cabsNglS _ fs ft => [fs, ft]
  | .cabsNglD _ fs ft => [fs, ft]
  | .cabsNglPs _ fs ft => [fs, ft]
  | .cabsLtS _ fs ft => [fs, ft]
  | .cabsLtD _ fs ft => [fs, ft]
  | .cabsLtPs _ fs ft => [fs, ft]
  | .cabsNgeS _ fs ft => [fs, ft]
  | .cabsNgeD _ fs ft => [fs, ft]
  | .cabsNgePs _ fs ft => [fs, ft]
  | .cabsLeS _ fs ft => [fs, ft]
  | .cabsLeD _ fs ft => [fs, ft]
  | .cabsLePs _ fs ft => [fs, ft]
  | .cabsNgtS _ fs ft => [fs, ft]
  | .cabsNgtD _ fs ft => [fs, ft]
  | .cabsNgtPs _ fs ft => [fs, ft]
  | .cvtPsPw _ fs => [fs]
  | .cvtPwPs _ fs => [fs]
  | .mulrPs _ fs ft => [fs, ft]
  | .recip1S _ fs => [fs]
  | .recip1D _ fs => [fs]
  | .recip1Ps _ fs => [fs]
  | .recip2S _ fs ft => [fs, ft]
  | .recip2D _ fs ft => [fs, ft]
  | .recip2Ps _ fs ft => [fs, ft]
  | .rsqrt1S _ fs => [fs]
  | .rsqrt1D _ fs => [fs]
  | .rsqrt1Ps _ fs => [fs]
  | .rsqrt2S _ fs ft => [fs, ft]
  | .rsqrt2D _ fs ft => [fs, ft]
  | .rsqrt2Ps _ fs ft => [fs, ft]

/-- The format an instruction reads its registers in (R140, R170, R200, R203, R215, R220, R225, R240, R245); for a
branch, which reads none, PS stands and means nothing. -/
def sourceFmt : Instr → Fmt
  | .addrPs _ _ _ => .ps
  | .bc1any2f _ _ => .ps
  | .bc1any2t _ _ => .ps
  | .bc1any4f _ _ => .ps
  | .bc1any4t _ _ => .ps
  | .cabsFS _ _ _ => .s
  | .cabsFD _ _ _ => .d
  | .cabsFPs _ _ _ => .ps
  | .cabsUnS _ _ _ => .s
  | .cabsUnD _ _ _ => .d
  | .cabsUnPs _ _ _ => .ps
  | .cabsEqS _ _ _ => .s
  | .cabsEqD _ _ _ => .d
  | .cabsEqPs _ _ _ => .ps
  | .cabsUeqS _ _ _ => .s
  | .cabsUeqD _ _ _ => .d
  | .cabsUeqPs _ _ _ => .ps
  | .cabsOltS _ _ _ => .s
  | .cabsOltD _ _ _ => .d
  | .cabsOltPs _ _ _ => .ps
  | .cabsUltS _ _ _ => .s
  | .cabsUltD _ _ _ => .d
  | .cabsUltPs _ _ _ => .ps
  | .cabsOleS _ _ _ => .s
  | .cabsOleD _ _ _ => .d
  | .cabsOlePs _ _ _ => .ps
  | .cabsUleS _ _ _ => .s
  | .cabsUleD _ _ _ => .d
  | .cabsUlePs _ _ _ => .ps
  | .cabsSfS _ _ _ => .s
  | .cabsSfD _ _ _ => .d
  | .cabsSfPs _ _ _ => .ps
  | .cabsNgleS _ _ _ => .s
  | .cabsNgleD _ _ _ => .d
  | .cabsNglePs _ _ _ => .ps
  | .cabsSeqS _ _ _ => .s
  | .cabsSeqD _ _ _ => .d
  | .cabsSeqPs _ _ _ => .ps
  | .cabsNglS _ _ _ => .s
  | .cabsNglD _ _ _ => .d
  | .cabsNglPs _ _ _ => .ps
  | .cabsLtS _ _ _ => .s
  | .cabsLtD _ _ _ => .d
  | .cabsLtPs _ _ _ => .ps
  | .cabsNgeS _ _ _ => .s
  | .cabsNgeD _ _ _ => .d
  | .cabsNgePs _ _ _ => .ps
  | .cabsLeS _ _ _ => .s
  | .cabsLeD _ _ _ => .d
  | .cabsLePs _ _ _ => .ps
  | .cabsNgtS _ _ _ => .s
  | .cabsNgtD _ _ _ => .d
  | .cabsNgtPs _ _ _ => .ps
  | .cvtPsPw _ _ => .pw
  | .cvtPwPs _ _ => .ps
  | .mulrPs _ _ _ => .ps
  | .recip1S _ _ => .s
  | .recip1D _ _ => .d
  | .recip1Ps _ _ => .ps
  | .recip2S _ _ _ => .s
  | .recip2D _ _ _ => .d
  | .recip2Ps _ _ _ => .ps
  | .rsqrt1S _ _ => .s
  | .rsqrt1D _ _ => .d
  | .rsqrt1Ps _ _ => .ps
  | .rsqrt2S _ _ _ => .s
  | .rsqrt2D _ _ _ => .d
  | .rsqrt2Ps _ _ _ => .ps

/-- Every condition of a is one of b. -/
def condsWithin (a b : Conds) : Bool :=
  (!a.v || b.v) && (!a.z || b.z) && (!a.o || b.o) && (!a.u || b.u) && (!a.i || b.i)

/-! Reasonable states -/

/-- The address is below 2^GPRLEN (R33). -/
def inSpace (g : GprLen) (a : Addr) : Prop := wrapAddr g a = a

/-- The invariant of the machine: the text is in canonical form, and the pc, a pending delay-slot target and EPC are
word-aligned addresses of the address space (R33, R35, R154). -/
structure StateInv (s : State) : Prop where
  text_form : Memory.wf s.mem
  pc_aligned : wordAligned s.pc = true
  pc_inSpace : inSpace s.cfg.gprLen s.pc
  ds_aligned : ∀ t, s.ds = some t → wordAligned t = true
  ds_inSpace : ∀ t, s.ds = some t → inSpace s.cfg.gprLen t
  epc_aligned : wordAligned s.cp0.epc = true
  epc_inSpace : inSpace s.cfg.gprLen s.cp0.epc

/-- The launch premises of R301 that one state can show: (1) the pc is aligned and in the text, (2) no delay slot is
pending. Premises (3) and (4) hold of every run of this model, which nothing interrupts and no step of which writes the
text; (5) and (6) are about how the state was made. -/
def LaunchOk (s : State) : Prop :=
  wordAligned s.pc = true ∧ (fetchWord s s.pc).isSome = true ∧ s.ds = none

/-- GPRLEN as a number (R5). -/
def gprBits : GprLen → Nat
  | .w32 => 32
  | .w64 => 64

/-- The next step takes word w from the text: the state is not final, the pc is aligned, and w stands there (R313). -/
def Fetches (s : State) (w : Word) : Prop :=
  isFinal s = false ∧ wordAligned s.pc = true ∧ fetchWord s s.pc = some w

/-- Two registers agree in all that an instruction may read of them: the tag, and the bits the tag gives a meaning; under
S and RAW32 "only bits 31..0 are meaningful" (R21). -/
def sameMeaning (a b : Fpr) : Prop :=
  a.tag = b.tag ∧ a.bits.extractLsb' 0 32 = b.bits.extractLsb' 0 32 ∧ (a.tag = .s ∨ a.tag = .raw32 ∨ a.bits = b.bits)

/-- Two states agree in everything but the free upper halves of S registers (R125) and the counter of draws. -/
def SameButFree (s t : State) : Prop :=
  (∀ r, sameMeaning (getFpr s r) (getFpr t r)) ∧ t = { s with fpr := t.fpr, draws := t.draws }

/-! How a run may go -/

/-- A step that ends the run unsuccessfully (R303): an exception that ends it, or a refusal. -/
def EndsBadly : Out → Prop
  | .next _ => False
  | .fault .final => False
  | .fault .stuck => True
  | .fault (.exception _) => True
  | .refused _ => True

/-- k steps from s all go on or end in a final state. -/
def SafeFor : Nat → State → Prop
  | 0, _ => True
  | k + 1, s => ¬ EndsBadly (step s) ∧ ∀ t, step s = .next t → SafeFor k t

/-! The accuracy hypotheses claims about RECIP and RSQRT may name (R221, R241) -/

/-- `val_S`, `val_D` of a finite pattern as a rational number (R105). -/
def fpValue {w : Nat} (L : Layout) (x : BitVec w) : ℚ := (signedMagnitude L x : ℚ) / (unitsPerOne L : ℚ)

/-- A rational number rounded to an integer in a mode (R111, with the sign in the number). -/
def roundToInt (mode : RoundingMode) (v : ℚ) : ℤ :=
  match mode with
  | .rn => if v - ⌊v⌋ < 1 / 2 ∨ (v - ⌊v⌋ = 1 / 2 ∧ ⌊v⌋ % 2 = 0) then ⌊v⌋ else ⌊v⌋ + 1
  | .rz => if v < 0 then ⌈v⌉ else ⌊v⌋
  | .rp => ⌈v⌉
  | .rm => ⌊v⌋

/-- The S value is an infinity or a NaN, or rounds to an integer no 32-bit word holds (R205). -/
def InvalidAsWord (mode : RoundingMode) (x : BitVec 32) : Prop :=
  isInf single x = true ∨ isNaN single x = true ∨ roundToInt mode (fpValue single x) < -2 ^ 31 ∨
    2 ^ 31 - 1 < roundToInt mode (fpValue single x)

/-- A rational number rounded to a multiple of 2^(e - fracBits): the candidate value of R110 for the exponent e. -/
def roundedAt (L : Layout) (mode : RoundingMode) (v : ℚ) (e : ℤ) : ℚ :=
  roundToInt mode (v / 2 ^ (e - L.fracBits)) * 2 ^ (e - L.fracBits)

/-- The value is tiny (R116): below the smallest normalized magnitude once rounded with an unbounded exponent range, or,
by the parameter, before. -/
def isTiny (L : Layout) (c : Config) (mode : RoundingMode) (v : ℚ) : Bool :=
  if c.tininessAfterRounding then decide (|roundedAt L mode v (Int.log 2 |v|)| < 2 ^ minExp L)
  else decide (|v| < 2 ^ minExp L)

/-- An overflow with the trap disabled delivers an infinity in this mode, for a value of this sign (R113). -/
def overflowsToInf (mode : RoundingMode) (negative : Bool) : Bool :=
  match mode with
  | .rn => true
  | .rz => false
  | .rp => !negative
  | .rm => negative

/-- The bits and conditions are those of the exact non-zero value v rounded to the format: R110 with the overflow of R113,
the underflow of R114 and the tininess of R116. -/
def IsRounding {w : Nat} (L : Layout) (c : Config) (f : Fcsr) (v : ℚ) (bits : BitVec w) (conds : Conds) : Prop :=
  let y := roundedAt L f.rm v (max (Int.log 2 |v|) (minExp L))
  if fpValue L (maxNormal L w false) < |y| then
    conds = condOI ∧
      bits = if overflowsToInf f.rm (decide (v < 0)) then infinity L w (decide (v < 0)) else maxNormal L w (decide (v < 0))
  else
    isNaN L bits = false ∧ isInf L bits = false ∧ signBit bits = decide (v < 0) ∧ fpValue L bits = y ∧
      conds = condUI (isTiny L c f.rm v && (decide (y ≠ v) || f.enables.u)) (decide (y ≠ v))

/-- The rational magnitude lies in the normalized range of the layout. -/
def inNormalRange (L : Layout) (q : ℚ) : Prop :=
  (2 : ℚ) ^ (minExp L) ≤ |q| ∧ |q| ≤ (2 - (2 : ℚ) ^ (-(L.fracBits : Int))) * 2 ^ (bias L : Int)

/-- `recip1_accurate(k)` of a reciprocal function (R221). -/
def Recip1Accurate {w : Nat} (L : Layout) (recip : BitVec w → BitVec w) (k : Nat) : Prop :=
  ∀ x : BitVec w, isNormal L x = true → inNormalRange L (1 / fpValue L x) →
    isNormal L (recip x) = true ∧ signBit (recip x) = signBit x ∧
      |fpValue L (recip x) * fpValue L x - 1| ≤ 1 / 2 ^ k

/-- `rsqrt1_accurate(k)` of a reciprocal square root function (R241). -/
def Rsqrt1Accurate {w : Nat} (L : Layout) (rsqrt : BitVec w → BitVec w) (k : Nat) : Prop :=
  ∀ x : BitVec w, isNormal L x = true → signBit x = false →
    isNormal L (rsqrt x) = true ∧ signBit (rsqrt x) = false ∧
      |fpValue L (rsqrt x) ^ 2 * fpValue L x - 1| ≤ 2 / 2 ^ k

end Sys2Proof.Machine
end

