-- ==== Sys2Proof/Certificates/Slice0/Obligations.lean ====
section
/-! DEFINITION. The statements for the provers. Each docstring names the rules of spec/ a statement rests on; where it
rests on a choice of the model, the log entry. -/

section

open Sys2Proof Sys2Proof.Machine

/-- Decode and encode agree on every well-formed instruction (R71 to R81). -/
def Obligations.DecodeEncodeRoundTrip : Prop :=
  ∀ i : Instr, i.wellFormed = true → decode (encode i) = .instr i

/-- The other direction: no two words decode to one instruction, and no bit is dropped (R81, R84 to R86). -/
def Obligations.EncodeDecodeRoundTrip : Prop :=
  ∀ (w : Word) (i : Instr), decode w = .instr i → i.wellFormed = true ∧ encode i = w

/-- The decoder against the mask and match words of R82; only the cc parity of CABS.cond.PS lies outside the masks. -/
def Obligations.DecoderFollowsTheMaskTable : Prop :=
  ∀ (w : Word) (m : Mnemonic),
    (m.fits w = true → (∃ i, decode w = .instr i ∧ i.mnemonic = m) ∨
      (decode w = .reject .ccAlignment ∧ w.extractLsb' 21 5 = 0b10110#5 ∧ w.extractLsb' 4 4 = 0b0111#4 ∧
        w.getLsbD 8 = true)) ∧
    (∀ i, decode w = .instr i → i.mnemonic = m → m.fits w = true)

/-- The worked encodings that R92 derives; those in formats S and D rest on the fmt codes of log 17. -/
def Obligations.DecodingOfWorkedEncodings : Prop :=
  decode 0x46C10098#32 = .instr (.addrPs 2#5 0#5 1#5) ∧
  decode 0x46C100DA#32 = .instr (.mulrPs 3#5 0#5 1#5) ∧
  decode 0x46800066#32 = .instr (.cvtPsPw 1#5 0#5) ∧
  decode 0x46C01124#32 = .instr (.cvtPwPs 4#5 2#5) ∧
  decode 0x45290002#32 = .instr (.bc1any2t 2#3 2#16) ∧
  decode 0x45388000#32 = .instr (.bc1any2f 6#3 (-32768#16)) ∧
  decode 0x45500001#32 = .instr (.bc1any4f 4#3 1#16) ∧
  decode 0x4551FFFF#32 = .instr (.bc1any4t 4#3 (-1#16)) ∧
  decode 0x46C1027C#32 = .instr (.cabsLtPs 2#3 0#5 1#5) ∧
  decode 0x46073472#32 = .instr (.cabsEqS 4#3 6#5 7#5) ∧
  decode 0x463FF77F#32 = .instr (.cabsNgtD 7#3 30#5 31#5) ∧
  decode 0x4600005D#32 = .instr (.recip1S 1#5 0#5) ∧
  decode 0x4620089C#32 = .instr (.recip2D 2#5 1#5 0#5) ∧
  decode 0x46C0005E#32 = .instr (.rsqrt1Ps 1#5 0#5) ∧
  decode 0x460110DF#32 = .instr (.rsqrt2S 3#5 2#5 1#5) ∧
  decode 0x46DDF7D8#32 = .instr (.addrPs 31#5 30#5 29#5)

/-- Branch words with nd = 1: the refusal is the decision D20 that R83 adopts (log 16). -/
def Obligations.BranchWordsWithNdSetAreRefused : Prop :=
  ∀ (s : State) (w : Word), Fetches s w → s.cu1 = true → w.extractLsb' 26 6 = 0b010001#6 →
    (w.extractLsb' 21 5 = 0b01001#5 ∨ w.extractLsb' 21 5 = 0b01010#5) → w.getLsbD 17 = true →
    step s = .refused .reservedNd

/-- Misaligned condition codes (R84, R85); the S and D compares take every cc. The refusal is the treatment of
UNPREDICTABLE by R9 and D8 (log 16). -/
def Obligations.MisalignedConditionCodesAreRefused : Prop :=
  ∀ (s : State) (w : Word), Fetches s w → s.cu1 = true → w.extractLsb' 26 6 = 0b010001#6 →
    (w.extractLsb' 21 5 = 0b01001#5 → w.getLsbD 17 = false → w.getLsbD 18 = true → step s = .refused .ccAlignment) ∧
    (w.extractLsb' 21 5 = 0b01010#5 → w.getLsbD 17 = false → (w.getLsbD 18 = true ∨ w.getLsbD 19 = true) →
      step s = .refused .ccAlignment) ∧
    (w.extractLsb' 21 5 = 0b10110#5 → w.extractLsb' 4 4 = 0b0111#4 → w.getLsbD 8 = true →
      step s = .refused .ccAlignment) ∧
    (w.extractLsb' 21 5 = 0b10000#5 → w.extractLsb' 4 4 = 0b0111#4 →
      decode w = .instr (cabsInstr .s (Cond.ofBits (w.extractLsb' 0 4)) (w.extractLsb' 8 3) (w.extractLsb' 11 5)
        (w.extractLsb' 16 5))) ∧
    (w.extractLsb' 21 5 = 0b10001#5 → w.extractLsb' 4 4 = 0b0111#4 →
      decode w = .instr (cabsInstr .d (Cond.ofBits (w.extractLsb' 0 4)) (w.extractLsb' 8 3) (w.extractLsb' 11 5)
        (w.extractLsb' 16 5)))

/-- The words of R86, of R87 and of R88 that R81 does not decode, by the cells of R81; the treatment is decision D20
for R86 and R88 for the rest (log 16). -/
def Obligations.WordsOutsideTheTableAreRefused : Prop :=
  ∀ (s : State) (w : Word), Fetches s w →
    let fmt := w.extractLsb' 21 5
    let function := w.extractLsb' 0 6
    let isFmt := fmt = 0b10000#5 ∨ fmt = 0b10001#5 ∨ fmt = 0b10110#5
    (w.extractLsb' 26 6 ≠ 0b010001#6 → step s = .refused .notInScope) ∧
    (s.cu1 = true → w.extractLsb' 26 6 = 0b010001#6 →
      (¬ isFmt → fmt ≠ 0b10100#5 → fmt ≠ 0b01001#5 → fmt ≠ 0b01010#5 → step s = .refused .notInScope) ∧
      (fmt = 0b10100#5 → function ≠ 0b100110#6 → step s = .refused .notInScope) ∧
      (isFmt → w.extractLsb' 4 2 = 0b11#2 → w.extractLsb' 6 2 ≠ 0b01#2 → step s = .refused .notInScope) ∧
      (isFmt → w.extractLsb' 4 2 ≠ 0b11#2 →
        function ∉ [0b011100#6, 0b011101#6, 0b011110#6, 0b011111#6] →
        (fmt = 0b10110#5 → function ∉ [0b011000#6, 0b011010#6, 0b100100#6]) → step s = .refused .notInScope) ∧
      (w.extractLsb' 16 5 ≠ 0#5 →
        ((fmt = 0b10100#5 ∧ function = 0b100110#6) ∨ (fmt = 0b10110#5 ∧ function = 0b100100#6) ∨
          (isFmt ∧ (function = 0b011101#6 ∨ function = 0b011110#6))) →
        step s = .refused .notInScope))

/-- A step at a word of the table is exec of its instruction (R313). -/
def Obligations.StepRunsDecodedInstruction : Prop :=
  ∀ (s : State) (w : Word) (i : Instr), Fetches s w → decode w = .instr i → step s = exec i s

/-- Steps 3 and 4 of R130 on a rejected word. -/
def Obligations.StepOutcomeOnRejectedWords : Prop :=
  ∀ (s : State) (w : Word) (r : Reject), Fetches s w → decode w = .reject r →
    step s = if w.extractLsb' 26 6 = 0b010001#6 ∧ s.cu1 = false then raise (.coprocessorUnusable 1#2) s
      else .refused (refusalOf r)

/-- What a step does before any word is fetched (R54, R55, R303). That a final and a stuck state answer a fault of the
interface, .final and .stuck, is log 14: the spec gives neither a step nor a fault. -/
def Obligations.StepBeforeTheFetch : Prop :=
  ∀ s : State,
    (s.pc ∈ s.halt → s.ds = none → step s = .fault .final) ∧
    ((s.pc ∉ s.halt ∨ s.ds ≠ none) → s.pc.extractLsb' 0 2 ≠ 0#2 → step s = raise (.addressErrorFetch s.pc) s) ∧
    ((s.pc ∉ s.halt ∨ s.ds ≠ none) → s.pc.extractLsb' 0 2 = 0#2 → fetchWord s s.pc = none →
      step s = .fault .stuck)

/-- Byte order and fetch agree (R52): b(a) is the most significant byte exactly when BIG_ENDIAN. -/
def Obligations.LoadedWordIsFetched : Prop :=
  ∀ (s : State) (a : Addr) (w : Word),
    fetchWord (loadWord s a w) a = some w ∧
    (∀ b, wordAligned a = true → wordAligned b = true → b ≠ a → fetchWord (loadWord s a w) b = fetchWord s b) ∧
    (memRead (loadWord s a w).mem a.toNat =
      some (if s.cfg.bigEndian then w.extractLsb' 24 8 else w.extractLsb' 0 8))

/-- Alignment and range of the pc and the delay-slot target (R33, R35, R154). The clauses on EPC, and the pc at an
exception vector, are the extension of log 13 (R276; R38 makes EPC no state of the spec), and the form of the text is
log 6. -/
def Obligations.StepKeepsStateInv : Prop :=
  ∀ s t : State, StateInv s → step s = .next t → StateInv t

/-- Reset meets the invariant; the values themselves are the model's choices (logs 4 and 5). -/
def Obligations.ResetMeetsStateInv : Prop :=
  StateInv State.reset

/-- What no instruction in scope writes (R22, R25, R27, R37, R50); the CP0 registers move only under the entry of log
13. -/
def Obligations.StepKeepsFixedState : Prop :=
  ∀ s t : State, step s = .next t →
    (∀ a, memRead t.mem a = memRead s.mem a) ∧ t.cfg = s.cfg ∧ t.halt = s.halt ∧ t.cu1 = s.cu1 ∧
    t.fp32regs = s.fp32regs ∧ t.fcsr.rm = s.fcsr.rm ∧ t.fcsr.fs = s.fcsr.fs ∧ t.fcsr.enables = s.fcsr.enables ∧
    (s.cfg.traps = .terminal → t.cp0 = s.cp0)

/-- FCSR.Flags only grow (R28). -/
def Obligations.FlagsAreSticky : Prop :=
  ∀ s t : State, step s = .next t → condsWithin s.fcsr.flags t.fcsr.flags = true

/-- The frame of the condition codes (R30, R40). -/
def Obligations.ConditionCodeFrame : Prop :=
  ∀ (i : Instr) (s t : State), exec i s = .next t →
    ∀ n : CcNum, n ∉ ccWritten i → fccGet t.fcsr n = fccGet s.fcsr n

/-- The frame of the registers (R20, R40); the exception is log 16's. -/
def Obligations.RegisterFrame : Prop :=
  ∀ (i : Instr) (s t : State), exec i s = .next t → ∀ r : FReg, destReg i ≠ some r →
    (s.cfg.unpredictable = .refuse ∨ r ∉ sourceRegs i) → getFpr t r = getFpr s r

/-- The advance of R34, for all 68 instructions. That addition wraps modulo 2^GPRLEN is R34's decision D11, the width
an address is held in is log 9's, and cfg.traps, which fixes that an exception ends the run, is the switch of log 13.
-/
def Obligations.PcAndDelaySlotAdvance : Prop :=
  ∀ (i : Instr) (s t : State), s.cfg.traps = .terminal → exec i s = .next t →
    (isBranch i = false → s.ds = none → t.pc = addrAdd s s.pc 4#64 ∧ t.ds = none) ∧
    (isBranch i = false → ∀ d, s.ds = some d → t.pc = d ∧ t.ds = none) ∧
    (isBranch i = true → t.pc = addrAdd s s.pc 4#64 ∧ t.ds.isSome = true) ∧
    (∀ a b, (addrAdd s a b).toNat = (a.toNat + b.toNat) % 2 ^ gprBits s.cfg.gprLen)

/-- The target of R151 and the timing of R152 and R153, for BC1ANY2F, BC1ANY2T, BC1ANY4F and BC1ANY4T. That codes the
delay slot writes do not change the decision is R152's inference from the pseudocode, the wrap of the sums is decision
D11 (log 9), and that an exception ends the run is the switch of log 13. No word with bit 17 (nd) set decodes to one
of the four. -/
def Obligations.DelaySlotThenTarget : Prop :=
  ∀ (n : Nat) (tf : Bool) (cc : CcNum) (offset : BitVec 16) (b j : Instr) (s t u : State),
    s.cfg.traps = .terminal → isBranch j = false →
    ((n = 2 ∧ tf = false ∧ b = .bc1any2f cc offset) ∨ (n = 2 ∧ tf = true ∧ b = .bc1any2t cc offset) ∨
      (n = 4 ∧ tf = false ∧ b = .bc1any4f cc offset) ∨ (n = 4 ∧ tf = true ∧ b = .bc1any4t cc offset)) →
    exec b s = .next t → exec j t = .next u →
    t.pc = addrAdd s s.pc 4#64 ∧ u.ds = none ∧
    ((∃ k, k < n ∧ fccGet s.fcsr (cc + BitVec.ofNat 3 k) = tf) →
      u.pc = addrAdd s (addrAdd s s.pc 4#64) (targetOffset offset)) ∧
    ((∀ k, k < n → fccGet s.fcsr (cc + BitVec.ofNat 3 k) ≠ tf) → u.pc = addrAdd s s.pc 8#64) ∧
    (∀ w : Word, decode w = .instr b → w.getLsbD 17 = false)

/-- The offset of R79. An address is held in 64 bits, so the extension to a GPRLEN of 32 is read after the cut of log
9. -/
def Obligations.TargetOffsetRange : Prop :=
  ∀ (s : State) (w : Word) (cc : CcNum) (o : BitVec 16),
    ((decode w = .instr (.bc1any2f cc o) ∨ decode w = .instr (.bc1any2t cc o) ∨ decode w = .instr (.bc1any4f cc o) ∨
      decode w = .instr (.bc1any4t cc o)) → o = w.extractLsb' 0 16) ∧
    wrapAddr .w64 (targetOffset o) = (o ++ 0#2).signExtend 64 ∧
    wrapAddr .w32 (targetOffset o) = ((o ++ 0#2).signExtend 32).setWidth 64 ∧
    (targetOffset o).toInt = 4 * o.toInt ∧ -131072 ≤ (targetOffset o).toInt ∧ (targetOffset o).toInt ≤ 131068 ∧
    (targetOffset 0x8000#16).toInt = -131072 ∧ (targetOffset 0x7FFF#16).toInt = 131068 ∧
    branchTarget s o = addrAdd s (addrAdd s s.pc 4#64) (targetOffset o)

/-- ADDR.PS completes (R140). -/
def Obligations.AddrPsResult : Prop :=
  ∀ (fd fs ft : FReg) (s : State), ExecutesTwo (.addrPs fd fs ft) .ps fs ft s →
    let lower := addS s.cfg s.fcsr ((getFpr s ft).bits.extractLsb' 0 32) ((getFpr s ft).bits.extractLsb' 32 32)
    let upper := addS s.cfg s.fcsr ((getFpr s fs).bits.extractLsb' 0 32) ((getFpr s fs).bits.extractLsb' 32 32)
    let c := unionConds upper.2 lower.2
    meetsEnables s.fcsr.enables c = false →
    exec (.addrPs fd fs ft) s = .next (advance
      { s with
        fpr := s.fpr.set fd.toNat ⟨.ps, upper.1 ++ lower.1⟩ fd.isLt
        fcsr := { s.fcsr with cause := ⟨false, c⟩, flags := unionConds s.fcsr.flags c } })

/-- MULR.PS completes (R215). -/
def Obligations.MulrPsResult : Prop :=
  ∀ (fd fs ft : FReg) (s : State), ExecutesTwo (.mulrPs fd fs ft) .ps fs ft s →
    let lower := mulS s.cfg s.fcsr ((getFpr s ft).bits.extractLsb' 0 32) ((getFpr s ft).bits.extractLsb' 32 32)
    let upper := mulS s.cfg s.fcsr ((getFpr s fs).bits.extractLsb' 0 32) ((getFpr s fs).bits.extractLsb' 32 32)
    let c := unionConds upper.2 lower.2
    meetsEnables s.fcsr.enables c = false →
    exec (.mulrPs fd fs ft) s = .next (advance
      { s with
        fpr := s.fpr.set fd.toNat ⟨.ps, upper.1 ++ lower.1⟩ fd.isLt
        fcsr := { s.fcsr with cause := ⟨false, c⟩, flags := unionConds s.fcsr.flags c } })

/-- The branches on any of two condition codes complete (R157, R158). -/
def Obligations.BranchAnyTwoResult : Prop :=
  ∀ (cc : CcNum) (offset : BitVec 16) (s : State),
    (ExecutesBranch (.bc1any2f cc offset) s →
      exec (.bc1any2f cc offset) s = .next
        { s with
          pc := addrAdd s s.pc 4#64
          ds := some (if fccGet s.fcsr cc = false ∨ fccGet s.fcsr (cc + 1#3) = false
            then addrAdd s (addrAdd s s.pc 4#64) (targetOffset offset) else addrAdd s s.pc 8#64) }) ∧
    (ExecutesBranch (.bc1any2t cc offset) s →
      exec (.bc1any2t cc offset) s = .next
        { s with
          pc := addrAdd s s.pc 4#64
          ds := some (if fccGet s.fcsr cc = true ∨ fccGet s.fcsr (cc + 1#3) = true
            then addrAdd s (addrAdd s s.pc 4#64) (targetOffset offset) else addrAdd s s.pc 8#64) })

/-- The branches on any of four condition codes complete (R159, R160). -/
def Obligations.BranchAnyFourResult : Prop :=
  ∀ (cc : CcNum) (offset : BitVec 16) (s : State),
    (ExecutesBranch (.bc1any4f cc offset) s →
      exec (.bc1any4f cc offset) s = .next
        { s with
          pc := addrAdd s s.pc 4#64
          ds := some (if fccGet s.fcsr cc = false ∨ fccGet s.fcsr (cc + 1#3) = false ∨
              fccGet s.fcsr (cc + 2#3) = false ∨ fccGet s.fcsr (cc + 3#3) = false
            then addrAdd s (addrAdd s s.pc 4#64) (targetOffset offset) else addrAdd s s.pc 8#64) }) ∧
    (ExecutesBranch (.bc1any4t cc offset) s →
      exec (.bc1any4t cc offset) s = .next
        { s with
          pc := addrAdd s s.pc 4#64
          ds := some (if fccGet s.fcsr cc = true ∨ fccGet s.fcsr (cc + 1#3) = true ∨
              fccGet s.fcsr (cc + 2#3) = true ∨ fccGet s.fcsr (cc + 3#3) = true
            then addrAdd s (addrAdd s s.pc 4#64) (targetOffset offset) else addrAdd s s.pc 8#64) })

/-- The sixteen CABS.cond.S complete (R190): F, UN, EQ, UEQ, OLT, ULT, OLE, ULE, SF, NGLE, SEQ, NGL, LT, NGE, LE, NGT.
-/
def Obligations.CompareSingleResult : Prop :=
  ∀ (c : Cond) (cc : CcNum) (fs ft : FReg) (s : State), ExecutesTwo (cabsInstr .s c cc fs ft) .s fs ft s →
    let r := cabs1 s.cfg.nan2008 single (Cond.bits c) ((getFpr s fs).bits.extractLsb' 0 32)
      ((getFpr s ft).bits.extractLsb' 0 32)
    (s.fcsr.enables.v && r.2) = false →
    exec (cabsInstr .s c cc fs ft) s = .next (advance
      { s with
        fcsr := { s.fcsr with
          cause := ⟨false, ⟨r.2, false, false, false, false⟩⟩
          flags := { s.fcsr.flags with v := s.fcsr.flags.v || r.2 }
          fcc := s.fcsr.fcc.set cc.toNat r.1 cc.isLt } })

/-- The sixteen CABS.cond.D complete (R191): F, UN, EQ, UEQ, OLT, ULT, OLE, ULE, SF, NGLE, SEQ, NGL, LT, NGE, LE, NGT.
-/
def Obligations.CompareDoubleResult : Prop :=
  ∀ (c : Cond) (cc : CcNum) (fs ft : FReg) (s : State), ExecutesTwo (cabsInstr .d c cc fs ft) .d fs ft s →
    let r := cabs1 s.cfg.nan2008 double (Cond.bits c) (getFpr s fs).bits
      (getFpr s ft).bits
    (s.fcsr.enables.v && r.2) = false →
    exec (cabsInstr .d c cc fs ft) s = .next (advance
      { s with
        fcsr := { s.fcsr with
          cause := ⟨false, ⟨r.2, false, false, false, false⟩⟩
          flags := { s.fcsr.flags with v := s.fcsr.flags.v || r.2 }
          fcc := s.fcsr.fcc.set cc.toNat r.1 cc.isLt } })

/-- The sixteen CABS.cond.PS complete (R192). -/
def Obligations.ComparePairedResult : Prop :=
  ∀ (c : Cond) (cc : CcNum) (fs ft : FReg) (s : State), ExecutesTwo (cabsInstr .ps c cc fs ft) .ps fs ft s →
    let lower := cabs1 s.cfg.nan2008 single (Cond.bits c) ((getFpr s fs).bits.extractLsb' 0 32)
      ((getFpr s ft).bits.extractLsb' 0 32)
    let upper := cabs1 s.cfg.nan2008 single (Cond.bits c) ((getFpr s fs).bits.extractLsb' 32 32)
      ((getFpr s ft).bits.extractLsb' 32 32)
    (s.fcsr.enables.v && (lower.2 || upper.2)) = false →
    exec (cabsInstr .ps c cc fs ft) s = .next (advance
      { s with
        fcsr := { s.fcsr with
          cause := ⟨false, ⟨lower.2 || upper.2, false, false, false, false⟩⟩
          flags := { s.fcsr.flags with v := s.fcsr.flags.v || (lower.2 || upper.2) }
          fcc := (s.fcsr.fcc.set cc.toNat lower.1 cc.isLt).set (cc + 1#3).toNat upper.1 (cc + 1#3).isLt } })

/-- CVT.PS.PW completes (R200). -/
def Obligations.CvtPsPwResult : Prop :=
  ∀ (fd fs : FReg) (s : State), ExecutesOne (.cvtPsPw fd fs) .pw fs s →
    let lower := convertWS s.cfg s.fcsr ((getFpr s fs).bits.extractLsb' 0 32)
    let upper := convertWS s.cfg s.fcsr ((getFpr s fs).bits.extractLsb' 32 32)
    let c := unionConds upper.2 lower.2
    meetsEnables s.fcsr.enables c = false →
    exec (.cvtPsPw fd fs) s = .next (advance
      { s with
        fpr := s.fpr.set fd.toNat ⟨.ps, upper.1 ++ lower.1⟩ fd.isLt
        fcsr := { s.fcsr with cause := ⟨false, c⟩, flags := unionConds s.fcsr.flags c } })

/-- CVT.PW.PS completes, and its Invalid Operation is that of R205. raise is the exception's own statement
(RaisedExceptionIsRecordedOrEntered). -/
def Obligations.CvtPwPsResult : Prop :=
  ∀ (fd fs : FReg) (s : State), ExecutesOne (.cvtPwPs fd fs) .ps fs s →
    let low := (getFpr s fs).bits.extractLsb' 0 32
    let high := (getFpr s fs).bits.extractLsb' 32 32
    let lower := convertSW s.fcsr low
    let upper := convertSW s.fcsr high
    let c := unionConds upper.2 lower.2
    (c.v = true ↔ InvalidAsWord s.fcsr.rm high ∨ InvalidAsWord s.fcsr.rm low) ∧
    (InvalidAsWord s.fcsr.rm high → upper.1 = 0x7FFFFFFF#32) ∧
    (InvalidAsWord s.fcsr.rm low → lower.1 = 0x7FFFFFFF#32) ∧
    (meetsEnables s.fcsr.enables c = false →
      exec (.cvtPwPs fd fs) s = .next (advance
        { s with
          fpr := s.fpr.set fd.toNat ⟨.pw, upper.1 ++ lower.1⟩ fd.isLt
          fcsr := { s.fcsr with cause := ⟨false, c⟩, flags := unionConds s.fcsr.flags c } })) ∧
    (s.fcsr.enables.v = true → InvalidAsWord s.fcsr.rm high ∨ InvalidAsWord s.fcsr.rm low →
      c.v = true ∧ exec (.cvtPwPs fd fs) s = raise (.floatingPoint ⟨false, c⟩)
        { s with fcsr := { s.fcsr with cause := ⟨false, c⟩ } })

/-- RECIP1.S, RECIP1.D and RECIP1.PS complete (R220), for every function the implementation may have; the free upper
half of an S result is any value (log 12). -/
def Obligations.RecipOneResult : Prop :=
  ∀ (fd fs : FReg) (s : State),
    (ExecutesOne (.recip1S fd fs) .s fs s →
      let r := recip1S s.cfg s.fcsr ((getFpr s fs).bits.extractLsb' 0 32)
      meetsEnables s.fcsr.enables r.2 = false →
      exec (.recip1S fd fs) s = .next (advance
        { s with
          fpr := s.fpr.set fd.toNat ⟨.s, Config.draw s.draws ++ r.1⟩ fd.isLt
          draws := s.draws + 1
          fcsr := { s.fcsr with cause := ⟨false, r.2⟩, flags := unionConds s.fcsr.flags r.2 } })) ∧
    (ExecutesOne (.recip1D fd fs) .d fs s →
      let r := recip1D s.cfg s.fcsr (getFpr s fs).bits
      meetsEnables s.fcsr.enables r.2 = false →
      exec (.recip1D fd fs) s = .next (advance
        { s with
          fpr := s.fpr.set fd.toNat ⟨.d, r.1⟩ fd.isLt
          fcsr := { s.fcsr with cause := ⟨false, r.2⟩, flags := unionConds s.fcsr.flags r.2 } })) ∧
    (ExecutesOne (.recip1Ps fd fs) .ps fs s →
      let lower := recip1S s.cfg s.fcsr ((getFpr s fs).bits.extractLsb' 0 32)
      let upper := recip1S s.cfg s.fcsr ((getFpr s fs).bits.extractLsb' 32 32)
      let c := unionConds upper.2 lower.2
      meetsEnables s.fcsr.enables c = false →
      exec (.recip1Ps fd fs) s = .next (advance
        { s with
          fpr := s.fpr.set fd.toNat ⟨.ps, upper.1 ++ lower.1⟩ fd.isLt
          fcsr := { s.fcsr with cause := ⟨false, c⟩, flags := unionConds s.fcsr.flags c } }))

/-- RECIP2.S, RECIP2.D and RECIP2.PS complete (R225), for every function the implementation may have; the free upper
half of an S result is any value (log 12). -/
def Obligations.RecipTwoResult : Prop :=
  ∀ (fd fs ft : FReg) (s : State),
    (ExecutesTwo (.recip2S fd fs ft) .s fs ft s →
      let r := recip2S s.cfg s.fcsr ((getFpr s fs).bits.extractLsb' 0 32) ((getFpr s ft).bits.extractLsb' 0 32)
      meetsEnables s.fcsr.enables r.2 = false →
      exec (.recip2S fd fs ft) s = .next (advance
        { s with
          fpr := s.fpr.set fd.toNat ⟨.s, Config.draw s.draws ++ r.1⟩ fd.isLt
          draws := s.draws + 1
          fcsr := { s.fcsr with cause := ⟨false, r.2⟩, flags := unionConds s.fcsr.flags r.2 } })) ∧
    (ExecutesTwo (.recip2D fd fs ft) .d fs ft s →
      let r := recip2D s.cfg s.fcsr (getFpr s fs).bits (getFpr s ft).bits
      meetsEnables s.fcsr.enables r.2 = false →
      exec (.recip2D fd fs ft) s = .next (advance
        { s with
          fpr := s.fpr.set fd.toNat ⟨.d, r.1⟩ fd.isLt
          fcsr := { s.fcsr with cause := ⟨false, r.2⟩, flags := unionConds s.fcsr.flags r.2 } })) ∧
    (ExecutesTwo (.recip2Ps fd fs ft) .ps fs ft s →
      let lower := recip2S s.cfg s.fcsr ((getFpr s fs).bits.extractLsb' 0 32) ((getFpr s ft).bits.extractLsb' 0 32)
      let upper := recip2S s.cfg s.fcsr ((getFpr s fs).bits.extractLsb' 32 32) ((getFpr s ft).bits.extractLsb' 32 32)
      let c := unionConds upper.2 lower.2
      meetsEnables s.fcsr.enables c = false →
      exec (.recip2Ps fd fs ft) s = .next (advance
        { s with
          fpr := s.fpr.set fd.toNat ⟨.ps, upper.1 ++ lower.1⟩ fd.isLt
          fcsr := { s.fcsr with cause := ⟨false, c⟩, flags := unionConds s.fcsr.flags c } }))

/-- RSQRT1.S, RSQRT1.D and RSQRT1.PS complete (R240), for every function the implementation may have; the free upper
half of an S result is any value (log 12). -/
def Obligations.RsqrtOneResult : Prop :=
  ∀ (fd fs : FReg) (s : State),
    (ExecutesOne (.rsqrt1S fd fs) .s fs s →
      let r := rsqrt1S s.cfg s.fcsr ((getFpr s fs).bits.extractLsb' 0 32)
      meetsEnables s.fcsr.enables r.2 = false →
      exec (.rsqrt1S fd fs) s = .next (advance
        { s with
          fpr := s.fpr.set fd.toNat ⟨.s, Config.draw s.draws ++ r.1⟩ fd.isLt
          draws := s.draws + 1
          fcsr := { s.fcsr with cause := ⟨false, r.2⟩, flags := unionConds s.fcsr.flags r.2 } })) ∧
    (ExecutesOne (.rsqrt1D fd fs) .d fs s →
      let r := rsqrt1D s.cfg s.fcsr (getFpr s fs).bits
      meetsEnables s.fcsr.enables r.2 = false →
      exec (.rsqrt1D fd fs) s = .next (advance
        { s with
          fpr := s.fpr.set fd.toNat ⟨.d, r.1⟩ fd.isLt
          fcsr := { s.fcsr with cause := ⟨false, r.2⟩, flags := unionConds s.fcsr.flags r.2 } })) ∧
    (ExecutesOne (.rsqrt1Ps fd fs) .ps fs s →
      let lower := rsqrt1S s.cfg s.fcsr ((getFpr s fs).bits.extractLsb' 0 32)
      let upper := rsqrt1S s.cfg s.fcsr ((getFpr s fs).bits.extractLsb' 32 32)
      let c := unionConds upper.2 lower.2
      meetsEnables s.fcsr.enables c = false →
      exec (.rsqrt1Ps fd fs) s = .next (advance
        { s with
          fpr := s.fpr.set fd.toNat ⟨.ps, upper.1 ++ lower.1⟩ fd.isLt
          fcsr := { s.fcsr with cause := ⟨false, c⟩, flags := unionConds s.fcsr.flags c } }))

/-- RSQRT2.S, RSQRT2.D and RSQRT2.PS complete (R245), for every function the implementation may have; the free upper
half of an S result is any value (log 12). -/
def Obligations.RsqrtTwoResult : Prop :=
  ∀ (fd fs ft : FReg) (s : State),
    (ExecutesTwo (.rsqrt2S fd fs ft) .s fs ft s →
      let r := rsqrt2S s.cfg s.fcsr ((getFpr s fs).bits.extractLsb' 0 32) ((getFpr s ft).bits.extractLsb' 0 32)
      meetsEnables s.fcsr.enables r.2 = false →
      exec (.rsqrt2S fd fs ft) s = .next (advance
        { s with
          fpr := s.fpr.set fd.toNat ⟨.s, Config.draw s.draws ++ r.1⟩ fd.isLt
          draws := s.draws + 1
          fcsr := { s.fcsr with cause := ⟨false, r.2⟩, flags := unionConds s.fcsr.flags r.2 } })) ∧
    (ExecutesTwo (.rsqrt2D fd fs ft) .d fs ft s →
      let r := rsqrt2D s.cfg s.fcsr (getFpr s fs).bits (getFpr s ft).bits
      meetsEnables s.fcsr.enables r.2 = false →
      exec (.rsqrt2D fd fs ft) s = .next (advance
        { s with
          fpr := s.fpr.set fd.toNat ⟨.d, r.1⟩ fd.isLt
          fcsr := { s.fcsr with cause := ⟨false, r.2⟩, flags := unionConds s.fcsr.flags r.2 } })) ∧
    (ExecutesTwo (.rsqrt2Ps fd fs ft) .ps fs ft s →
      let lower := rsqrt2S s.cfg s.fcsr ((getFpr s fs).bits.extractLsb' 0 32) ((getFpr s ft).bits.extractLsb' 0 32)
      let upper := rsqrt2S s.cfg s.fcsr ((getFpr s fs).bits.extractLsb' 32 32) ((getFpr s ft).bits.extractLsb' 32 32)
      let c := unionConds upper.2 lower.2
      meetsEnables s.fcsr.enables c = false →
      exec (.rsqrt2Ps fd fs ft) s = .next (advance
        { s with
          fpr := s.fpr.set fd.toNat ⟨.ps, upper.1 ++ lower.1⟩ fd.isLt
          fcsr := { s.fcsr with cause := ⟨false, c⟩, flags := unionConds s.fcsr.flags c } }))

/-- The trapping branch of R121 for the paired arithmetic and the conversions. -/
def Obligations.ReductionAndConversionTraps : Prop :=
  ∀ (fd fs ft : FReg) (s : State),
    (ExecutesTwo (.addrPs fd fs ft) .ps fs ft s →
      let c := unionConds
        (addS s.cfg s.fcsr ((getFpr s fs).bits.extractLsb' 0 32) ((getFpr s fs).bits.extractLsb' 32 32)).2
        (addS s.cfg s.fcsr ((getFpr s ft).bits.extractLsb' 0 32) ((getFpr s ft).bits.extractLsb' 32 32)).2
      meetsEnables s.fcsr.enables c = true →
      exec (.addrPs fd fs ft) s = raise (.floatingPoint ⟨false, c⟩)
        { s with fcsr := { s.fcsr with cause := ⟨false, c⟩ } }) ∧
    (ExecutesTwo (.mulrPs fd fs ft) .ps fs ft s →
      let c := unionConds
        (mulS s.cfg s.fcsr ((getFpr s fs).bits.extractLsb' 0 32) ((getFpr s fs).bits.extractLsb' 32 32)).2
        (mulS s.cfg s.fcsr ((getFpr s ft).bits.extractLsb' 0 32) ((getFpr s ft).bits.extractLsb' 32 32)).2
      meetsEnables s.fcsr.enables c = true →
      exec (.mulrPs fd fs ft) s = raise (.floatingPoint ⟨false, c⟩)
        { s with fcsr := { s.fcsr with cause := ⟨false, c⟩ } }) ∧
    (ExecutesOne (.cvtPsPw fd fs) .pw fs s →
      let c := unionConds (convertWS s.cfg s.fcsr ((getFpr s fs).bits.extractLsb' 32 32)).2
        (convertWS s.cfg s.fcsr ((getFpr s fs).bits.extractLsb' 0 32)).2
      meetsEnables s.fcsr.enables c = true →
      exec (.cvtPsPw fd fs) s = raise (.floatingPoint ⟨false, c⟩)
        { s with fcsr := { s.fcsr with cause := ⟨false, c⟩ } }) ∧
    (ExecutesOne (.cvtPwPs fd fs) .ps fs s →
      let c := unionConds (convertSW s.fcsr ((getFpr s fs).bits.extractLsb' 32 32)).2
        (convertSW s.fcsr ((getFpr s fs).bits.extractLsb' 0 32)).2
      meetsEnables s.fcsr.enables c = true →
      exec (.cvtPwPs fd fs) s = raise (.floatingPoint ⟨false, c⟩)
        { s with fcsr := { s.fcsr with cause := ⟨false, c⟩ } })

/-- The trapping branch of R121 and R173 for the compares. -/
def Obligations.CompareTraps : Prop :=
  ∀ (c : Cond) (cc : CcNum) (fs ft : FReg) (s : State), s.fcsr.enables.v = true →
    (ExecutesTwo (cabsInstr .s c cc fs ft) .s fs ft s →
      (cabs1 s.cfg.nan2008 single (Cond.bits c) ((getFpr s fs).bits.extractLsb' 0 32)
        ((getFpr s ft).bits.extractLsb' 0 32)).2 = true →
      exec (cabsInstr .s c cc fs ft) s = raise (.floatingPoint ⟨false, condV⟩)
        { s with fcsr := { s.fcsr with cause := ⟨false, condV⟩ } }) ∧
    (ExecutesTwo (cabsInstr .d c cc fs ft) .d fs ft s →
      (cabs1 s.cfg.nan2008 double (Cond.bits c) (getFpr s fs).bits (getFpr s ft).bits).2 = true →
      exec (cabsInstr .d c cc fs ft) s = raise (.floatingPoint ⟨false, condV⟩)
        { s with fcsr := { s.fcsr with cause := ⟨false, condV⟩ } }) ∧
    (ExecutesTwo (cabsInstr .ps c cc fs ft) .ps fs ft s →
      ((cabs1 s.cfg.nan2008 single (Cond.bits c) ((getFpr s fs).bits.extractLsb' 0 32)
        ((getFpr s ft).bits.extractLsb' 0 32)).2 ||
        (cabs1 s.cfg.nan2008 single (Cond.bits c) ((getFpr s fs).bits.extractLsb' 32 32)
        ((getFpr s ft).bits.extractLsb' 32 32)).2) = true →
      exec (cabsInstr .ps c cc fs ft) s = raise (.floatingPoint ⟨false, condV⟩)
        { s with fcsr := { s.fcsr with cause := ⟨false, condV⟩ } })

/-- The trapping branch of R121 for the twelve reciprocal forms. -/
def Obligations.RecipAndRsqrtTraps : Prop :=
  ∀ (f : InstrFmt) (fd fs ft : FReg) (s : State),
    (ExecutesOne (recip1Instr f fd fs) (operandFmt f) fs s →
      let c := (liftOne (recip1S s.cfg s.fcsr) (recip1D s.cfg s.fcsr) f
        (operandBits s fs (operandFmt f))).2
      meetsEnables s.fcsr.enables c = true →
      exec (recip1Instr f fd fs) s = raise (.floatingPoint ⟨false, c⟩)
        { s with fcsr := { s.fcsr with cause := ⟨false, c⟩ } }) ∧
    (ExecutesTwo (recip2Instr f fd fs ft) (operandFmt f) fs ft s →
      let c := (liftTwo (recip2S s.cfg s.fcsr) (recip2D s.cfg s.fcsr) f
        (operandBits s fs (operandFmt f)) (operandBits s ft (operandFmt f))).2
      meetsEnables s.fcsr.enables c = true →
      exec (recip2Instr f fd fs ft) s = raise (.floatingPoint ⟨false, c⟩)
        { s with fcsr := { s.fcsr with cause := ⟨false, c⟩ } }) ∧
    (ExecutesOne (rsqrt1Instr f fd fs) (operandFmt f) fs s →
      let c := (liftOne (rsqrt1S s.cfg s.fcsr) (rsqrt1D s.cfg s.fcsr) f
        (operandBits s fs (operandFmt f))).2
      meetsEnables s.fcsr.enables c = true →
      exec (rsqrt1Instr f fd fs) s = raise (.floatingPoint ⟨false, c⟩)
        { s with fcsr := { s.fcsr with cause := ⟨false, c⟩ } }) ∧
    (ExecutesTwo (rsqrt2Instr f fd fs ft) (operandFmt f) fs ft s →
      let c := (liftTwo (rsqrt2S s.cfg s.fcsr) (rsqrt2D s.cfg s.fcsr) f
        (operandBits s fs (operandFmt f)) (operandBits s ft (operandFmt f))).2
      meetsEnables s.fcsr.enables c = true →
      exec (rsqrt2Instr f fd fs ft) s = raise (.floatingPoint ⟨false, c⟩)
        { s with fcsr := { s.fcsr with cause := ⟨false, c⟩ } })

/-- Step 3 of R130, on instructions and on words (R262). -/
def Obligations.CoprocessorUnusableComesFirst : Prop :=
  ∀ s : State, s.cu1 = false →
    (∀ i : Instr, exec i s = raise (.coprocessorUnusable 1#2) s) ∧
    (∀ w : Word, Fetches s w → w.extractLsb' 26 6 = 0b010001#6 → step s = raise (.coprocessorUnusable 1#2) s)

/-- Step 5 of R130 (R263). -/
def Obligations.ReservedInstructionIsRaised : Prop :=
  ∀ (i : Instr) (s : State), s.cu1 = true → i.wellFormed = true → i.mnemonic ∈ s.cfg.lacking →
    exec i s = raise .reservedInstruction s

/-- Step 9 of R130 (R123, R265). -/
def Obligations.UnimplementedOperationTraps : Prop :=
  ∀ (i : Instr) (s : State), Usable i s → (isBranch i = true → s.ds = none) →
    (isBranch i = false → s.fp32regs = true) → (∀ r ∈ sourceRegs i, Readable s r (sourceFmt i)) →
    unimplementedOp s i ((sourceRegs i).map fun r => operandBits s r (sourceFmt i)) = true →
    exec i s = raise (.floatingPoint ⟨true, ⟨false, false, false, false, false⟩⟩)
      { s with fcsr := { s.fcsr with cause := ⟨true, ⟨false, false, false, false, false⟩⟩ } }

/-- Step 6 of R130 (R155). -/
def Obligations.BranchInDelaySlotIsRefused : Prop :=
  ∀ (i : Instr) (s : State),
    (Usable i s → isBranch i = true → s.ds.isSome = true → exec i s = .refused .branchInDelaySlot) ∧
    (isBranch i = false → exec i s ≠ .refused .branchInDelaySlot)

/-- Step 7 of R130 (R22, D10). -/
def Obligations.SixteenRegisterModeIsRefused : Prop :=
  ∀ (i : Instr) (s : State), Usable i s → isBranch i = false → s.fp32regs = false →
    (s.cfg.unpredictable = .refuse ∨ sourceFmt i = .s ∨ sourceFmt i = .d) → exec i s = .refused .sixteenRegisterMode

/-- Step 8 of R130 (R21, R124). -/
def Obligations.OperandFormatIsRefused : Prop :=
  ∀ (i : Instr) (s : State), Usable i s → s.fp32regs = true → s.cfg.unpredictable = .refuse →
    (∃ r ∈ sourceRegs i, ¬ Readable s r (sourceFmt i)) → exec i s = .refused .operandFormat

/-- The refusals of R130 are all there are. -/
def Obligations.OnlyTheseRefusals : Prop :=
  ∀ (i : Instr) (s : State) (why : Refusal), i.wellFormed = true → exec i s = .refused why →
    (why = .branchInDelaySlot ∧ isBranch i = true ∧ s.ds.isSome = true) ∨
    (why = .sixteenRegisterMode ∧ isBranch i = false ∧ s.fp32regs = false) ∨
    (why = .operandFormat ∧ isBranch i = false ∧ s.fp32regs = true ∧ s.cfg.unpredictable = .refuse ∧
      ∃ r ∈ sourceRegs i, ¬ Readable s r (sourceFmt i))

/-- The switch of log 16 (spec/93_implementation_defined.md section 1.1), a choice of the model. -/
def Obligations.DrawnResultsNeverRefuse : Prop :=
  ∀ (i : Instr) (s : State), Usable i s → isBranch i = false → s.fp32regs = true → s.cfg.unpredictable = .draw →
    (∀ why, exec i s ≠ .refused why) ∧ (s.cfg.traps = .architectural → ∃ t, exec i s = .next t)

/-- The record of R275, which is decision D8, with the FCSR of R279; exceptions are precise (R273). That the exception
recorded is the one raised is said by RaisedExceptionIsRecordedOrEntered. -/
def Obligations.FaultRecordIsPrecise : Prop :=
  ∀ (s : State) (r : FaultRecord), step s = .fault (.exception r) →
    r.pc = s.pc ∧ r.inDelaySlot = s.ds.isSome ∧
    r.resume = (if s.ds.isSome = true then addrAdd s s.pc (-4#64) else s.pc) ∧
    (∀ c, r.exception = .floatingPoint c → r.recorded = { s with fcsr := { s.fcsr with cause := c } }) ∧
    ((∀ c, r.exception ≠ .floatingPoint c) → r.recorded = s) ∧
    (∀ n, r.exception = .coprocessorUnusable n → n = 1#2) ∧
    (∀ a, r.exception = .addressErrorFetch a → a = s.pc)

/-- The record of R275 (decision D8), and the entry and return of R276, the model's extension of log 13. -/
def Obligations.RaisedExceptionIsRecordedOrEntered : Prop :=
  ∀ (e : Exception) (s : State),
    (s.cfg.traps = .terminal → raise e s = .fault (.exception
      { exception := e, pc := s.pc, inDelaySlot := s.ds.isSome
        resume := if s.ds.isSome = true then addrAdd s s.pc (-4#64) else s.pc, recorded := s })) ∧
    (s.cfg.traps = .architectural → ∃ t, raise e s = .next t ∧
    t = { s with cp0 := t.cp0, pc := t.pc, ds := none } ∧
    t.pc = wrapAddr s.cfg.gprLen (if s.cp0.bev then 0xFFFFFFFFBFC00380#64 else 0xFFFFFFFF80000180#64) ∧
    t.cp0.exl = true ∧ t.cp0.bev = s.cp0.bev ∧
    (s.cp0.exl = false →
      t.cp0.epc = (if s.ds.isSome = true then addrAdd s s.pc (-4#64) else s.pc) ∧ t.cp0.bd = s.ds.isSome) ∧
    (s.cp0.exl = true → t.cp0.epc = s.cp0.epc ∧ t.cp0.bd = s.cp0.bd) ∧
    (∀ n, e = .coprocessorUnusable n → t.cp0.excCode = 11#5 ∧ t.cp0.ce = n ∧ t.cp0.badVAddr = s.cp0.badVAddr) ∧
    (e = .reservedInstruction → t.cp0.excCode = 10#5 ∧ t.cp0.ce = s.cp0.ce ∧ t.cp0.badVAddr = s.cp0.badVAddr) ∧
    (∀ c, e = .floatingPoint c → t.cp0.excCode = 15#5 ∧ t.cp0.ce = s.cp0.ce ∧ t.cp0.badVAddr = s.cp0.badVAddr) ∧
    (∀ a, e = .addressErrorFetch a → t.cp0.excCode = 4#5 ∧ t.cp0.badVAddr = a ∧ t.cp0.ce = s.cp0.ce) ∧
    returnFromException t = { t with cp0 := { t.cp0 with exl := false }, pc := t.cp0.epc, ds := none })

/-- The table of R78 and the rules R174 to R189, over the predicate of R172. -/
def Obligations.CompareConditionTable : Prop :=
  ∀ (w : Nat) (L : Layout) (n : Bool) (a b : BitVec w),
    let un := isNaN L a || isNaN L b
    let lt := !un && fpLess L (absValue a) (absValue b)
    let eq := !un && fpEqual L (absValue a) (absValue b)
    let sn := isSNaN n L a || isSNaN n L b
    let qn := isQNaN n L a || isQNaN n L b
    cabs1 n L (Cond.bits .f) a b = (false, sn) ∧ cabs1 n L (Cond.bits .un) a b = (un, sn) ∧
    cabs1 n L (Cond.bits .eq) a b = (eq, sn) ∧ cabs1 n L (Cond.bits .ueq) a b = (eq || un, sn) ∧
    cabs1 n L (Cond.bits .olt) a b = (lt, sn) ∧ cabs1 n L (Cond.bits .ult) a b = (lt || un, sn) ∧
    cabs1 n L (Cond.bits .ole) a b = (lt || eq, sn) ∧ cabs1 n L (Cond.bits .ule) a b = (lt || eq || un, sn) ∧
    cabs1 n L (Cond.bits .sf) a b = (false, sn || qn) ∧ cabs1 n L (Cond.bits .ngle) a b = (un, sn || qn) ∧
    cabs1 n L (Cond.bits .seq) a b = (eq, sn || qn) ∧ cabs1 n L (Cond.bits .ngl) a b = (eq || un, sn || qn) ∧
    cabs1 n L (Cond.bits .lt) a b = (lt, sn || qn) ∧ cabs1 n L (Cond.bits .nge) a b = (lt || un, sn || qn) ∧
    cabs1 n L (Cond.bits .le) a b = (lt || eq, sn || qn) ∧ cabs1 n L (Cond.bits .ngt) a b = (lt || eq || un, sn || qn)

/-- The unsigned reading of the absolute compare that R172 derives from R100, R101 and R131. -/
def Obligations.AbsoluteCompareIsUnsigned : Prop :=
  (∀ a b : BitVec 32, isNaN single a = false → isNaN single b = false →
      fpLess single (absValue a) (absValue b) = decide (a.toNat % 2 ^ 31 < b.toNat % 2 ^ 31) ∧
      fpEqual single (absValue a) (absValue b) = decide (a.toNat % 2 ^ 31 = b.toNat % 2 ^ 31)) ∧
  (∀ a b : BitVec 64, isNaN double a = false → isNaN double b = false →
      fpLess double (absValue a) (absValue b) = decide (a.toNat % 2 ^ 63 < b.toNat % 2 ^ 63) ∧
      fpEqual double (absValue a) (absValue b) = decide (a.toNat % 2 ^ 63 = b.toNat % 2 ^ 63))

/-- The choice of R111, of the remainder of a fraction; R25 and R111 give it from general knowledge (log 18). -/
def Obligations.RoundingModeChoice : Prop :=
  ∀ (s : Bool) (num den : Nat), 0 < den →
    let lo := num / den
    let r := num % den
    roundChoice (rmOfCode 0#2) s lo (remainderOf num den) =
      (if den < 2 * r ∨ (2 * r = den ∧ lo % 2 = 1) then lo + 1 else lo) ∧
    roundChoice (rmOfCode 1#2) s lo (remainderOf num den) = lo ∧
    roundChoice (rmOfCode 2#2) s lo (remainderOf num den) = (if s = false ∧ 0 < r then lo + 1 else lo) ∧
    roundChoice (rmOfCode 3#2) s lo (remainderOf num den) = (if s = true ∧ 0 < r then lo + 1 else lo)

/-- R117 (a) to (c) with R109, R112 and R118, all of them from general knowledge (log 18); that a configured default
NaN must be quiet is log 23. Below the normalized range the result is the open function's (R120, log 11) but in the
reference instance. -/
def Obligations.AddAndMulResults : Prop :=
  ∀ (c : Config) (f : Fcsr) (a b : BitVec 32),
    let q := qnanDefaultS c
    let v := fpValue single a + fpValue single b
    let p := fpValue single a * fpValue single b
    (q = if isQNaN c.nan2008 single c.qnanDefaultS then c.qnanDefaultS
      else if c.nan2008 then 0x7FC00000#32 else 0x7FBFFFFF#32) ∧
    isQNaN c.nan2008 single q = true ∧
    (isSNaN c.nan2008 single a = true ∨ isSNaN c.nan2008 single b = true →
      addS c f a b = (q, condV) ∧ mulS c f a b = (q, condV)) ∧
    (isNaN single a = true ∨ isNaN single b = true →
      isSNaN c.nan2008 single a = false → isSNaN c.nan2008 single b = false →
      isQNaN c.nan2008 single (addS c f a b).1 = true ∧ (addS c f a b).2 = noConds ∧
      isQNaN c.nan2008 single (mulS c f a b).1 = true ∧ (mulS c f a b).2 = noConds) ∧
    (isNaN single a = false → isNaN single b = false →
      (isInf single a = true → isInf single b = true → signBit a ≠ signBit b → addS c f a b = (q, condV)) ∧
      (isInf single a = true → (isInf single b = true → signBit a = signBit b) → addS c f a b = (a, noConds)) ∧
      (isInf single b = true → (isInf single a = true → signBit a = signBit b) → addS c f a b = (b, noConds)) ∧
      (isZero single a = true → isZero single b = true → signBit a = signBit b → addS c f a b = (a, noConds)) ∧
      (isInf single a = false → isInf single b = false → v = 0 →
        ¬ (isZero single a = true ∧ isZero single b = true ∧ signBit a = signBit b) →
        addS c f a b = (if f.rm = .rm then 0x80000000#32 else 0#32, noConds)) ∧
      (isInf single a = false → isInf single b = false → v ≠ 0 →
        (c.numerics = .reference ∨ (2 : ℚ) ^ (-126 : ℤ) ≤ |v|) →
        IsRounding single c f v (addS c f a b).1 (addS c f a b).2) ∧
      ((isInf single a = true ∧ isZero single b = true) ∨ (isZero single a = true ∧ isInf single b = true) →
        mulS c f a b = (q, condV)) ∧
      (isInf single a = false → isInf single b = false → (isZero single a = true ∨ isZero single b = true) →
        mulS c f a b = (if signBit a = signBit b then 0#32 else 0x80000000#32, noConds)) ∧
      ((isInf single a = true ∧ isZero single b = false) ∨ (isInf single b = true ∧ isZero single a = false) →
        mulS c f a b = (if signBit a = signBit b then 0x7F800000#32 else 0xFF800000#32, noConds)) ∧
      (isInf single a = false → isInf single b = false → p ≠ 0 →
        (c.numerics = .reference ∨ (2 : ℚ) ^ (-126 : ℤ) ≤ |p|) →
        IsRounding single c f p (mulS c f a b).1 (mulS c f a b).2) ∧
      (c.numerics = .reference → isInf single a = false → isInf single b = false →
        signBit (mulS c f a b).1 = (signBit a ^^ signBit b)))

/-- Corner case 3 of R140. -/
def Obligations.AddAndMulCommute : Prop :=
  ∀ (c : Config) (f : Fcsr) (a b : BitVec 32), isNaN single a = false → isNaN single b = false →
    addS c f a b = addS c f b a ∧ mulS c f a b = mulS c f b a

/-- Rounding is the identity on the values of R100 and R101 (R110, R114). -/
def Obligations.RepresentableValuesRoundToThemselves : Prop :=
  ∀ (c : Config) (f : Fcsr),
    (∀ x : BitVec 32, isNaN single x = false → isInf single x = false → isZero single x = false →
      let r := roundRatio single 32 c f (signBit x) (magnitude single x) (unitsPerOne single)
      r.bits = x ∧ r.conds = condUI (isDenorm single x && f.enables.u) false) ∧
    (∀ x : BitVec 64, isNaN double x = false → isInf double x = false → isZero double x = false →
      let r := roundRatio double 64 c f (signBit x) (magnitude double x) (unitsPerOne double)
      r.bits = x ∧ r.conds = condUI (isDenorm double x && f.enables.u) false)

/-- What R269 derives for ADDR.PS, in the reference instance of flush (R120, log 11). -/
def Obligations.AdditionNeverUnderflowsUntrapped : Prop :=
  ∀ (c : Config) (f : Fcsr) (a b : BitVec 32), c.numerics = .reference → f.enables.u = false →
    (addS c f a b).2.u = false

/-- The values of R127 and R128 (general knowledge, log 18), the default result of R205 and the parameter of R202
(D6); 2^180 units are 2^31, and 0xCF000000 is -2^31. -/
def Obligations.ConversionResults : Prop :=
  ∀ (c : Config) (f : Fcsr) (x : BitVec 32),
    ((convertSW f x).2.v = true ↔
      isNaN single x = true ∨ isInf single x = true ∨ (2 ^ 180 ≤ magnitude single x ∧ x ≠ 0xCF000000#32)) ∧
    ((convertSW f x).2.v = true → convertSW f x = (0x7FFFFFFF#32, ⟨true, false, false, false, false⟩)) ∧
    ((convertSW f x).2.v = false →
      (convertSW f x).1.toInt = roundToInt f.rm (fpValue single x) ∧
      (convertSW f x).2 = ⟨false, false, false, false, decide ((roundToInt f.rm (fpValue single x) : ℚ) ≠ fpValue single x)⟩) ∧
    convertWS c f 0#32 = (0#32, noConds) ∧
    (x ≠ 0#32 → ∃ inexact : Bool, IsRounding single c f (x.toInt : ℚ) (convertWS c f x).1 ⟨false, false, false, false, inexact⟩ ∧
      (convertWS c f x).2 = ⟨false, false, false, false, inexact && c.cvtPsPwInexact⟩)

/-- The table of R271; that the conditions of a drawn result stay within it too is log 16. -/
def Obligations.ConditionsListedByPage : Prop :=
  ∀ (i : Instr) (s : State), s.cfg.traps = .terminal →
    (∀ t, exec i s = .next t → isBranch i = false →
      t.fcsr.cause.e = false ∧ condsWithin t.fcsr.cause.conds (listedConds s.cfg i) = true) ∧
    (∀ r c, exec i s = .fault (.exception r) → r.exception = .floatingPoint c →
      c = ⟨true, noConds⟩ ∨ (c.e = false ∧ condsWithin c.conds (listedConds s.cfg i) = true))

/-- The facts (a) and (b) of R221 and R241. -/
def Obligations.FixedCasesOfTheSeeds : Prop :=
  ∀ (c : Config) (f : Fcsr),
    (∀ x : BitVec 32, isZero single x = true →
      (recip1S c f x).1 &&& 0x7FFFFFFF#32 = 0x7F7FFFFF#32 ∧ (rsqrt1S c f x).1 &&& 0x7FFFFFFF#32 = 0x7F7FFFFF#32) ∧
    (∀ x : BitVec 32, isInf single x = true →
      (recip1S c f x).1 &&& 0x7FFFFFFF#32 = 0#32 ∧ (rsqrt1S c f x).1 &&& 0x7FFFFFFF#32 = 0#32) ∧
    (∀ x : BitVec 64, isZero double x = true →
      (recip1D c f x).1 &&& 0x7FFFFFFFFFFFFFFF#64 = 0x7FEFFFFFFFFFFFFF#64 ∧
      (rsqrt1D c f x).1 &&& 0x7FFFFFFFFFFFFFFF#64 = 0x7FEFFFFFFFFFFFFF#64) ∧
    (∀ x : BitVec 64, isInf double x = true →
      (recip1D c f x).1 &&& 0x7FFFFFFFFFFFFFFF#64 = 0#64 ∧ (rsqrt1D c f x).1 &&& 0x7FFFFFFFFFFFFFFF#64 = 0#64)

/-- What R221 says of its reference instance (decision D22, log 10). -/
def Obligations.ReferenceReciprocalAccuracy : Prop :=
  ∀ (c : Config) (f : Fcsr), c.numerics = .reference →
    Recip1Accurate single (fun x => (recip1S c f x).1) 23 ∧ Recip1Accurate double (fun x => (recip1D c f x).1) 52

/-- The model never reads the draw of R125, "because the tag S allows only S reads". -/
def Obligations.FreeHalvesAreNeverRead : Prop :=
  ∀ s s' : State, s.cfg.unpredictable = .refuse → SameButFree s s' →
    (∀ t, step s = .next t → ∃ t', step s' = .next t' ∧ SameButFree t t') ∧
    (∀ why, step s = .refused why ↔ step s' = .refused why) ∧
    (step s = .fault .final ↔ step s' = .fault .final) ∧ (step s = .fault .stuck ↔ step s' = .fault .stuck) ∧
    (∀ r, step s = .fault (.exception r) → ∃ r', step s' = .fault (.exception r') ∧
      r' = { r with recorded := r'.recorded } ∧ SameButFree r.recorded r'.recorded)

/-- The layout of R24, with the mode codes of R25, both from general knowledge; bits 22..18 are log 22. -/
def Obligations.FcsrWordRoundTrip : Prop :=
  (∀ f : Fcsr, fcsrOfWord (fcsrToWord f) = f) ∧ (∀ w : BitVec 32, fcsrToWord (fcsrOfWord w) = w &&& 0xFF83FFFF#32) ∧
  (∀ f : Fcsr,
    let w := fcsrToWord f
    w.extractLsb' 0 2 = (match f.rm with | .rn => 0#2 | .rz => 1#2 | .rp => 2#2 | .rm => 3#2) ∧
    w.getLsbD 2 = f.flags.i ∧ w.getLsbD 3 = f.flags.u ∧ w.getLsbD 4 = f.flags.o ∧ w.getLsbD 5 = f.flags.z ∧
    w.getLsbD 6 = f.flags.v ∧ w.getLsbD 7 = f.enables.i ∧ w.getLsbD 8 = f.enables.u ∧ w.getLsbD 9 = f.enables.o ∧
    w.getLsbD 10 = f.enables.z ∧ w.getLsbD 11 = f.enables.v ∧ w.getLsbD 12 = f.cause.conds.i ∧
    w.getLsbD 13 = f.cause.conds.u ∧ w.getLsbD 14 = f.cause.conds.o ∧ w.getLsbD 15 = f.cause.conds.z ∧
    w.getLsbD 16 = f.cause.conds.v ∧ w.getLsbD 17 = f.cause.e ∧ w.extractLsb' 18 5 = 0#5 ∧
    w.getLsbD 23 = fccGet f 0#3 ∧ w.getLsbD 24 = f.fs ∧
    ∀ n : CcNum, n ≠ 0#3 → w.getLsbD (24 + n.toNat) = fccGet f n)

/-- The predicate IsRounding of Safety.lean says R110 to R116 on rational numbers; all of it is general knowledge (log
18). -/
def Obligations.RoundingOfExactValues : Prop :=
  (∀ (c : Config) (f : Fcsr) (s : Bool) (num den : Nat), 0 < num → 0 < den →
    let v : ℚ := (if s then -1 else 1) * ((num : ℚ) / (den : ℚ))
    IsRounding single c f v (roundRatio single 32 c f s num den).bits (roundRatio single 32 c f s num den).conds ∧
    IsRounding double c f v (roundRatio double 64 c f s num den).bits (roundRatio double 64 c f s num den).conds) ∧
  infinity single 32 false = 0x7F800000#32 ∧ infinity single 32 true = 0xFF800000#32 ∧
  maxNormal single 32 false = 0x7F7FFFFF#32 ∧ maxNormal single 32 true = 0xFF7FFFFF#32 ∧
  infinity double 64 false = 0x7FF0000000000000#64 ∧ infinity double 64 true = 0xFFF0000000000000#64 ∧
  maxNormal double 64 false = 0x7FEFFFFFFFFFFFFF#64 ∧ maxNormal double 64 true = 0xFFEFFFFFFFFFFFFF#64

end
end

