-- ==== Sys2Proof/Laws/Encoding.lean ====
section
/-! SUPPORT. The fields of a word built by each of the four formats (R71 to R74): what every cell of the figure reads as. -/

namespace Sys2Proof

section Fr3

variable (fmt : BitVec 5) (ft fs fd : FReg) (fn : BitVec 6)

@[simp] theorem encodeFr3_major : (encodeFr3 fmt ft fs fd fn).extractLsb' 26 6 = cop1 := by
  simp only [encodeFr3]
  iterate 5 rw [BitVec.extractLsb'_append_eq_of_le (by decide)]
  exact BitVec.extractLsb'_eq_self

@[simp] theorem encodeFr3_fmt : (encodeFr3 fmt ft fs fd fn).extractLsb' 21 5 = fmt := by
  simp only [encodeFr3]
  iterate 4 rw [BitVec.extractLsb'_append_eq_of_le (by decide)]
  rw [BitVec.extractLsb'_append_eq_of_add_le (by decide)]
  exact BitVec.extractLsb'_eq_self

@[simp] theorem encodeFr3_ft : (encodeFr3 fmt ft fs fd fn).extractLsb' 16 5 = ft := by
  simp only [encodeFr3]
  iterate 3 rw [BitVec.extractLsb'_append_eq_of_le (by decide)]
  rw [BitVec.extractLsb'_append_eq_of_add_le (by decide)]
  exact BitVec.extractLsb'_eq_self

@[simp] theorem encodeFr3_fs : (encodeFr3 fmt ft fs fd fn).extractLsb' 11 5 = fs := by
  simp only [encodeFr3]
  iterate 2 rw [BitVec.extractLsb'_append_eq_of_le (by decide)]
  rw [BitVec.extractLsb'_append_eq_of_add_le (by decide)]
  exact BitVec.extractLsb'_eq_self

@[simp] theorem encodeFr3_fd : (encodeFr3 fmt ft fs fd fn).extractLsb' 6 5 = fd := by
  simp only [encodeFr3]
  rw [BitVec.extractLsb'_append_eq_of_le (by decide)]
  rw [BitVec.extractLsb'_append_eq_of_add_le (by decide)]
  exact BitVec.extractLsb'_eq_self

@[simp] theorem encodeFr3_fn : (encodeFr3 fmt ft fs fd fn).extractLsb' 0 6 = fn := by
  simp only [encodeFr3]
  rw [BitVec.extractLsb'_append_eq_of_add_le (by decide)]
  exact BitVec.extractLsb'_eq_self

@[simp] theorem encodeFr3_fn_class : (encodeFr3 fmt ft fs fd fn).extractLsb' 4 2 = fn.extractLsb' 4 2 := by
  simp only [encodeFr3]
  rw [BitVec.extractLsb'_append_eq_of_add_le (by decide)]

end Fr3

section Fb

variable (sub : BitVec 5) (cc : CcNum) (tf : BitVec 1) (offset : BitVec 16)

@[simp] theorem encodeFb_major : (encodeFb sub cc tf offset).extractLsb' 26 6 = cop1 := by
  simp only [encodeFb]
  iterate 5 rw [BitVec.extractLsb'_append_eq_of_le (by decide)]
  exact BitVec.extractLsb'_eq_self

@[simp] theorem encodeFb_sub : (encodeFb sub cc tf offset).extractLsb' 21 5 = sub := by
  simp only [encodeFb]
  iterate 4 rw [BitVec.extractLsb'_append_eq_of_le (by decide)]
  rw [BitVec.extractLsb'_append_eq_of_add_le (by decide)]
  exact BitVec.extractLsb'_eq_self

@[simp] theorem encodeFb_cc : (encodeFb sub cc tf offset).extractLsb' 18 3 = cc := by
  simp only [encodeFb]
  iterate 3 rw [BitVec.extractLsb'_append_eq_of_le (by decide)]
  rw [BitVec.extractLsb'_append_eq_of_add_le (by decide)]
  exact BitVec.extractLsb'_eq_self

@[simp] theorem encodeFb_nd : (encodeFb sub cc tf offset).extractLsb' 17 1 = 0#1 := by
  simp only [encodeFb]
  iterate 2 rw [BitVec.extractLsb'_append_eq_of_le (by decide)]
  rw [BitVec.extractLsb'_append_eq_of_add_le (by decide)]
  exact BitVec.extractLsb'_eq_self

@[simp] theorem encodeFb_tf : (encodeFb sub cc tf offset).extractLsb' 16 1 = tf := by
  simp only [encodeFb]
  rw [BitVec.extractLsb'_append_eq_of_le (by decide)]
  rw [BitVec.extractLsb'_append_eq_of_add_le (by decide)]
  exact BitVec.extractLsb'_eq_self

@[simp] theorem encodeFb_offset : (encodeFb sub cc tf offset).extractLsb' 0 16 = offset := by
  simp only [encodeFb]
  rw [BitVec.extractLsb'_append_eq_of_add_le (by decide)]
  exact BitVec.extractLsb'_eq_self

end Fb

section Fc

variable (fmt : BitVec 5) (ft fs : FReg) (cc : CcNum) (cond : BitVec 4)

@[simp] theorem encodeFc_major : (encodeFc fmt ft fs cc cond).extractLsb' 26 6 = cop1 := by
  simp only [encodeFc]
  iterate 6 rw [BitVec.extractLsb'_append_eq_of_le (by decide)]
  exact BitVec.extractLsb'_eq_self

@[simp] theorem encodeFc_fmt : (encodeFc fmt ft fs cc cond).extractLsb' 21 5 = fmt := by
  simp only [encodeFc]
  iterate 5 rw [BitVec.extractLsb'_append_eq_of_le (by decide)]
  rw [BitVec.extractLsb'_append_eq_of_add_le (by decide)]
  exact BitVec.extractLsb'_eq_self

@[simp] theorem encodeFc_ft : (encodeFc fmt ft fs cc cond).extractLsb' 16 5 = ft := by
  simp only [encodeFc]
  iterate 4 rw [BitVec.extractLsb'_append_eq_of_le (by decide)]
  rw [BitVec.extractLsb'_append_eq_of_add_le (by decide)]
  exact BitVec.extractLsb'_eq_self

@[simp] theorem encodeFc_fs : (encodeFc fmt ft fs cc cond).extractLsb' 11 5 = fs := by
  simp only [encodeFc]
  iterate 3 rw [BitVec.extractLsb'_append_eq_of_le (by decide)]
  rw [BitVec.extractLsb'_append_eq_of_add_le (by decide)]
  exact BitVec.extractLsb'_eq_self

@[simp] theorem encodeFc_cc : (encodeFc fmt ft fs cc cond).extractLsb' 8 3 = cc := by
  simp only [encodeFc]
  iterate 2 rw [BitVec.extractLsb'_append_eq_of_le (by decide)]
  rw [BitVec.extractLsb'_append_eq_of_add_le (by decide)]
  exact BitVec.extractLsb'_eq_self

@[simp] theorem encodeFc_mark : (encodeFc fmt ft fs cc cond).extractLsb' 6 2 = 0b01#2 := by
  simp only [encodeFc]
  rw [BitVec.extractLsb'_append_eq_of_le (by decide)]
  rw [BitVec.extractLsb'_append_eq_of_add_le (by decide)]
  decide

@[simp] theorem encodeFc_class : (encodeFc fmt ft fs cc cond).extractLsb' 4 2 = 0b11#2 := by
  simp only [encodeFc]
  rw [BitVec.extractLsb'_append_eq_of_le (by decide)]
  rw [BitVec.extractLsb'_append_eq_of_add_le (by decide)]
  decide

@[simp] theorem encodeFc_cond : (encodeFc fmt ft fs cc cond).extractLsb' 0 4 = cond := by
  simp only [encodeFc]
  rw [BitVec.extractLsb'_append_eq_of_add_le (by decide)]
  exact BitVec.extractLsb'_eq_self

end Fc

@[simp] theorem isCop1_encodeFr3 (fmt : BitVec 5) (ft fs fd : FReg) (fn : BitVec 6) :
    isCop1 (encodeFr3 fmt ft fs fd fn) = true := by
  simp [isCop1]

@[simp] theorem isCop1_encodeFb (sub : BitVec 5) (cc : CcNum) (tf : BitVec 1) (offset : BitVec 16) :
    isCop1 (encodeFb sub cc tf offset) = true := by
  simp [isCop1]

@[simp] theorem isCop1_encodeFc (fmt : BitVec 5) (ft fs : FReg) (cc : CcNum) (cond : BitVec 4) :
    isCop1 (encodeFc fmt ft fs cc cond) = true := by
  simp [isCop1]

end Sys2Proof
end

