-- ==== Sys2Proof/Laws/State.lean ====
section
/-! SUPPORT. One lemma per field for each update of State (Machine/Ops.lean), so that no later proof unfolds a record
update. -/

namespace Sys2Proof.Machine

/-! What each update leaves alone -/

@[simp] theorem setFpr_cfg (r : FReg) (v : Fpr) (s : State) : (setFpr r v s).cfg = s.cfg := rfl
@[simp] theorem setFpr_fp32regs (r : FReg) (v : Fpr) (s : State) : (setFpr r v s).fp32regs = s.fp32regs := rfl
@[simp] theorem setFpr_fcsr (r : FReg) (v : Fpr) (s : State) : (setFpr r v s).fcsr = s.fcsr := rfl
@[simp] theorem setFpr_pc (r : FReg) (v : Fpr) (s : State) : (setFpr r v s).pc = s.pc := rfl
@[simp] theorem setFpr_ds (r : FReg) (v : Fpr) (s : State) : (setFpr r v s).ds = s.ds := rfl
@[simp] theorem setFpr_cu1 (r : FReg) (v : Fpr) (s : State) : (setFpr r v s).cu1 = s.cu1 := rfl
@[simp] theorem setFpr_cp0 (r : FReg) (v : Fpr) (s : State) : (setFpr r v s).cp0 = s.cp0 := rfl
@[simp] theorem setFpr_mem (r : FReg) (v : Fpr) (s : State) : (setFpr r v s).mem = s.mem := rfl
@[simp] theorem setFpr_halt (r : FReg) (v : Fpr) (s : State) : (setFpr r v s).halt = s.halt := rfl
@[simp] theorem setFpr_draws (r : FReg) (v : Fpr) (s : State) : (setFpr r v s).draws = s.draws := rfl

@[simp] theorem storeFpr_cfg (r : FReg) (f : Fmt) (v : BitVec 64) (s : State) : (storeFpr r f v s).cfg = s.cfg := by cases f <;> rfl
@[simp] theorem storeFpr_fp32regs (r : FReg) (f : Fmt) (v : BitVec 64) (s : State) : (storeFpr r f v s).fp32regs = s.fp32regs := by cases f <;> rfl
@[simp] theorem storeFpr_fcsr (r : FReg) (f : Fmt) (v : BitVec 64) (s : State) : (storeFpr r f v s).fcsr = s.fcsr := by cases f <;> rfl
@[simp] theorem storeFpr_pc (r : FReg) (f : Fmt) (v : BitVec 64) (s : State) : (storeFpr r f v s).pc = s.pc := by cases f <;> rfl
@[simp] theorem storeFpr_ds (r : FReg) (f : Fmt) (v : BitVec 64) (s : State) : (storeFpr r f v s).ds = s.ds := by cases f <;> rfl
@[simp] theorem storeFpr_cu1 (r : FReg) (f : Fmt) (v : BitVec 64) (s : State) : (storeFpr r f v s).cu1 = s.cu1 := by cases f <;> rfl
@[simp] theorem storeFpr_cp0 (r : FReg) (f : Fmt) (v : BitVec 64) (s : State) : (storeFpr r f v s).cp0 = s.cp0 := by cases f <;> rfl
@[simp] theorem storeFpr_mem (r : FReg) (f : Fmt) (v : BitVec 64) (s : State) : (storeFpr r f v s).mem = s.mem := by cases f <;> rfl
@[simp] theorem storeFpr_halt (r : FReg) (f : Fmt) (v : BitVec 64) (s : State) : (storeFpr r f v s).halt = s.halt := by cases f <;> rfl

@[simp] theorem setCc_cfg (n : CcNum) (b : Bool) (s : State) : (setCc n b s).cfg = s.cfg := rfl
@[simp] theorem setCc_fpr (n : CcNum) (b : Bool) (s : State) : (setCc n b s).fpr = s.fpr := rfl
@[simp] theorem setCc_fp32regs (n : CcNum) (b : Bool) (s : State) : (setCc n b s).fp32regs = s.fp32regs := rfl
@[simp] theorem setCc_pc (n : CcNum) (b : Bool) (s : State) : (setCc n b s).pc = s.pc := rfl
@[simp] theorem setCc_ds (n : CcNum) (b : Bool) (s : State) : (setCc n b s).ds = s.ds := rfl
@[simp] theorem setCc_cu1 (n : CcNum) (b : Bool) (s : State) : (setCc n b s).cu1 = s.cu1 := rfl
@[simp] theorem setCc_cp0 (n : CcNum) (b : Bool) (s : State) : (setCc n b s).cp0 = s.cp0 := rfl
@[simp] theorem setCc_mem (n : CcNum) (b : Bool) (s : State) : (setCc n b s).mem = s.mem := rfl
@[simp] theorem setCc_halt (n : CcNum) (b : Bool) (s : State) : (setCc n b s).halt = s.halt := rfl
@[simp] theorem setCc_draws (n : CcNum) (b : Bool) (s : State) : (setCc n b s).draws = s.draws := rfl

@[simp] theorem setCause_cfg (c : Cause) (s : State) : (setCause c s).cfg = s.cfg := rfl
@[simp] theorem setCause_fpr (c : Cause) (s : State) : (setCause c s).fpr = s.fpr := rfl
@[simp] theorem setCause_fp32regs (c : Cause) (s : State) : (setCause c s).fp32regs = s.fp32regs := rfl
@[simp] theorem setCause_pc (c : Cause) (s : State) : (setCause c s).pc = s.pc := rfl
@[simp] theorem setCause_ds (c : Cause) (s : State) : (setCause c s).ds = s.ds := rfl
@[simp] theorem setCause_cu1 (c : Cause) (s : State) : (setCause c s).cu1 = s.cu1 := rfl
@[simp] theorem setCause_cp0 (c : Cause) (s : State) : (setCause c s).cp0 = s.cp0 := rfl
@[simp] theorem setCause_mem (c : Cause) (s : State) : (setCause c s).mem = s.mem := rfl
@[simp] theorem setCause_halt (c : Cause) (s : State) : (setCause c s).halt = s.halt := rfl
@[simp] theorem setCause_draws (c : Cause) (s : State) : (setCause c s).draws = s.draws := rfl

@[simp] theorem orFlags_cfg (c : Conds) (s : State) : (orFlags c s).cfg = s.cfg := rfl
@[simp] theorem orFlags_fpr (c : Conds) (s : State) : (orFlags c s).fpr = s.fpr := rfl
@[simp] theorem orFlags_fp32regs (c : Conds) (s : State) : (orFlags c s).fp32regs = s.fp32regs := rfl
@[simp] theorem orFlags_pc (c : Conds) (s : State) : (orFlags c s).pc = s.pc := rfl
@[simp] theorem orFlags_ds (c : Conds) (s : State) : (orFlags c s).ds = s.ds := rfl
@[simp] theorem orFlags_cu1 (c : Conds) (s : State) : (orFlags c s).cu1 = s.cu1 := rfl
@[simp] theorem orFlags_cp0 (c : Conds) (s : State) : (orFlags c s).cp0 = s.cp0 := rfl
@[simp] theorem orFlags_mem (c : Conds) (s : State) : (orFlags c s).mem = s.mem := rfl
@[simp] theorem orFlags_halt (c : Conds) (s : State) : (orFlags c s).halt = s.halt := rfl
@[simp] theorem orFlags_draws (c : Conds) (s : State) : (orFlags c s).draws = s.draws := rfl

@[simp] theorem advance_cfg (s : State) : (advance s).cfg = s.cfg := by unfold advance; split <;> rfl
@[simp] theorem advance_fpr (s : State) : (advance s).fpr = s.fpr := by unfold advance; split <;> rfl
@[simp] theorem advance_fp32regs (s : State) : (advance s).fp32regs = s.fp32regs := by unfold advance; split <;> rfl
@[simp] theorem advance_fcsr (s : State) : (advance s).fcsr = s.fcsr := by unfold advance; split <;> rfl
@[simp] theorem advance_cu1 (s : State) : (advance s).cu1 = s.cu1 := by unfold advance; split <;> rfl
@[simp] theorem advance_cp0 (s : State) : (advance s).cp0 = s.cp0 := by unfold advance; split <;> rfl
@[simp] theorem advance_mem (s : State) : (advance s).mem = s.mem := by unfold advance; split <;> rfl
@[simp] theorem advance_halt (s : State) : (advance s).halt = s.halt := by unfold advance; split <;> rfl
@[simp] theorem advance_draws (s : State) : (advance s).draws = s.draws := by unfold advance; split <;> rfl

@[simp] theorem branchTo_cfg (a : Addr) (s : State) : (branchTo a s).cfg = s.cfg := rfl
@[simp] theorem branchTo_fpr (a : Addr) (s : State) : (branchTo a s).fpr = s.fpr := rfl
@[simp] theorem branchTo_fp32regs (a : Addr) (s : State) : (branchTo a s).fp32regs = s.fp32regs := rfl
@[simp] theorem branchTo_fcsr (a : Addr) (s : State) : (branchTo a s).fcsr = s.fcsr := rfl
@[simp] theorem branchTo_cu1 (a : Addr) (s : State) : (branchTo a s).cu1 = s.cu1 := rfl
@[simp] theorem branchTo_cp0 (a : Addr) (s : State) : (branchTo a s).cp0 = s.cp0 := rfl
@[simp] theorem branchTo_mem (a : Addr) (s : State) : (branchTo a s).mem = s.mem := rfl
@[simp] theorem branchTo_halt (a : Addr) (s : State) : (branchTo a s).halt = s.halt := rfl
@[simp] theorem branchTo_draws (a : Addr) (s : State) : (branchTo a s).draws = s.draws := rfl

@[simp] theorem enterException_cfg (e : Exception) (s : State) : (enterException e s).cfg = s.cfg := rfl
@[simp] theorem enterException_fpr (e : Exception) (s : State) : (enterException e s).fpr = s.fpr := rfl
@[simp] theorem enterException_fp32regs (e : Exception) (s : State) : (enterException e s).fp32regs = s.fp32regs := rfl
@[simp] theorem enterException_fcsr (e : Exception) (s : State) : (enterException e s).fcsr = s.fcsr := rfl
@[simp] theorem enterException_cu1 (e : Exception) (s : State) : (enterException e s).cu1 = s.cu1 := rfl
@[simp] theorem enterException_mem (e : Exception) (s : State) : (enterException e s).mem = s.mem := rfl
@[simp] theorem enterException_halt (e : Exception) (s : State) : (enterException e s).halt = s.halt := rfl
@[simp] theorem enterException_draws (e : Exception) (s : State) : (enterException e s).draws = s.draws := rfl

@[simp] theorem returnFromException_cfg (s : State) : (returnFromException s).cfg = s.cfg := rfl
@[simp] theorem returnFromException_fpr (s : State) : (returnFromException s).fpr = s.fpr := rfl
@[simp] theorem returnFromException_fp32regs (s : State) : (returnFromException s).fp32regs = s.fp32regs := rfl
@[simp] theorem returnFromException_fcsr (s : State) : (returnFromException s).fcsr = s.fcsr := rfl
@[simp] theorem returnFromException_cu1 (s : State) : (returnFromException s).cu1 = s.cu1 := rfl
@[simp] theorem returnFromException_mem (s : State) : (returnFromException s).mem = s.mem := rfl
@[simp] theorem returnFromException_halt (s : State) : (returnFromException s).halt = s.halt := rfl
@[simp] theorem returnFromException_draws (s : State) : (returnFromException s).draws = s.draws := rfl

@[simp] theorem loseFpr_cfg (s : State) (r : FReg) : (loseFpr s r).cfg = s.cfg := rfl
@[simp] theorem loseFpr_fp32regs (s : State) (r : FReg) : (loseFpr s r).fp32regs = s.fp32regs := rfl
@[simp] theorem loseFpr_fcsr (s : State) (r : FReg) : (loseFpr s r).fcsr = s.fcsr := rfl
@[simp] theorem loseFpr_pc (s : State) (r : FReg) : (loseFpr s r).pc = s.pc := rfl
@[simp] theorem loseFpr_ds (s : State) (r : FReg) : (loseFpr s r).ds = s.ds := rfl
@[simp] theorem loseFpr_cu1 (s : State) (r : FReg) : (loseFpr s r).cu1 = s.cu1 := rfl
@[simp] theorem loseFpr_cp0 (s : State) (r : FReg) : (loseFpr s r).cp0 = s.cp0 := rfl
@[simp] theorem loseFpr_mem (s : State) (r : FReg) : (loseFpr s r).mem = s.mem := rfl
@[simp] theorem loseFpr_halt (s : State) (r : FReg) : (loseFpr s r).halt = s.halt := rfl

@[simp] theorem drawFpr_cfg (r : FReg) (f : Fmt) (s : State) : (drawFpr r f s).cfg = s.cfg := by cases f <;> rfl
@[simp] theorem drawFpr_fp32regs (r : FReg) (f : Fmt) (s : State) : (drawFpr r f s).fp32regs = s.fp32regs := by cases f <;> rfl
@[simp] theorem drawFpr_fcsr (r : FReg) (f : Fmt) (s : State) : (drawFpr r f s).fcsr = s.fcsr := by cases f <;> rfl
@[simp] theorem drawFpr_pc (r : FReg) (f : Fmt) (s : State) : (drawFpr r f s).pc = s.pc := by cases f <;> rfl
@[simp] theorem drawFpr_ds (r : FReg) (f : Fmt) (s : State) : (drawFpr r f s).ds = s.ds := by cases f <;> rfl
@[simp] theorem drawFpr_cu1 (r : FReg) (f : Fmt) (s : State) : (drawFpr r f s).cu1 = s.cu1 := by cases f <;> rfl
@[simp] theorem drawFpr_cp0 (r : FReg) (f : Fmt) (s : State) : (drawFpr r f s).cp0 = s.cp0 := by cases f <;> rfl
@[simp] theorem drawFpr_mem (r : FReg) (f : Fmt) (s : State) : (drawFpr r f s).mem = s.mem := by cases f <;> rfl
@[simp] theorem drawFpr_halt (r : FReg) (f : Fmt) (s : State) : (drawFpr r f s).halt = s.halt := by cases f <;> rfl

@[simp] theorem drawCc_cfg (n : CcNum) (s : State) : (drawCc n s).cfg = s.cfg := rfl
@[simp] theorem drawCc_fpr (n : CcNum) (s : State) : (drawCc n s).fpr = s.fpr := rfl
@[simp] theorem drawCc_fp32regs (n : CcNum) (s : State) : (drawCc n s).fp32regs = s.fp32regs := rfl
@[simp] theorem drawCc_pc (n : CcNum) (s : State) : (drawCc n s).pc = s.pc := rfl
@[simp] theorem drawCc_ds (n : CcNum) (s : State) : (drawCc n s).ds = s.ds := rfl
@[simp] theorem drawCc_cu1 (n : CcNum) (s : State) : (drawCc n s).cu1 = s.cu1 := rfl
@[simp] theorem drawCc_cp0 (n : CcNum) (s : State) : (drawCc n s).cp0 = s.cp0 := rfl
@[simp] theorem drawCc_mem (n : CcNum) (s : State) : (drawCc n s).mem = s.mem := rfl
@[simp] theorem drawCc_halt (n : CcNum) (s : State) : (drawCc n s).halt = s.halt := rfl

@[simp] theorem loadWord_cfg (s : State) (a : Addr) (w : Word) : (loadWord s a w).cfg = s.cfg := rfl
@[simp] theorem loadWord_fpr (s : State) (a : Addr) (w : Word) : (loadWord s a w).fpr = s.fpr := rfl
@[simp] theorem loadWord_fp32regs (s : State) (a : Addr) (w : Word) : (loadWord s a w).fp32regs = s.fp32regs := rfl
@[simp] theorem loadWord_fcsr (s : State) (a : Addr) (w : Word) : (loadWord s a w).fcsr = s.fcsr := rfl
@[simp] theorem loadWord_pc (s : State) (a : Addr) (w : Word) : (loadWord s a w).pc = s.pc := rfl
@[simp] theorem loadWord_ds (s : State) (a : Addr) (w : Word) : (loadWord s a w).ds = s.ds := rfl
@[simp] theorem loadWord_cu1 (s : State) (a : Addr) (w : Word) : (loadWord s a w).cu1 = s.cu1 := rfl
@[simp] theorem loadWord_cp0 (s : State) (a : Addr) (w : Word) : (loadWord s a w).cp0 = s.cp0 := rfl
@[simp] theorem loadWord_halt (s : State) (a : Addr) (w : Word) : (loadWord s a w).halt = s.halt := rfl
@[simp] theorem loadWord_draws (s : State) (a : Addr) (w : Word) : (loadWord s a w).draws = s.draws := rfl

/-! What each update writes -/

@[simp] theorem setFpr_fpr (r : FReg) (v : Fpr) (s : State) : (setFpr r v s).fpr = s.fpr.set r.toNat v r.isLt := rfl
@[simp] theorem setCc_fcsr (n : CcNum) (b : Bool) (s : State) : (setCc n b s).fcsr = fccSet n b s.fcsr := rfl
@[simp] theorem setCause_fcsr (c : Cause) (s : State) : (setCause c s).fcsr = fcsrSetCause c s.fcsr := rfl
@[simp] theorem orFlags_fcsr (c : Conds) (s : State) : (orFlags c s).fcsr = fcsrOrFlags c s.fcsr := rfl
@[simp] theorem branchTo_pc (a : Addr) (s : State) : (branchTo a s).pc = addrAdd s s.pc 4#64 := rfl
@[simp] theorem branchTo_ds (a : Addr) (s : State) : (branchTo a s).ds = some a := rfl
@[simp] theorem enterException_cp0 (e : Exception) (s : State) : (enterException e s).cp0 = cp0OnEntry e s := rfl
@[simp] theorem enterException_pc (e : Exception) (s : State) :
    (enterException e s).pc = exceptionVector s.cfg.gprLen s.cp0.bev := rfl
@[simp] theorem enterException_ds (e : Exception) (s : State) : (enterException e s).ds = none := rfl
@[simp] theorem returnFromException_pc (s : State) : (returnFromException s).pc = s.cp0.epc := rfl
@[simp] theorem returnFromException_ds (s : State) : (returnFromException s).ds = none := rfl
@[simp] theorem returnFromException_cp0 (s : State) : (returnFromException s).cp0 = { s.cp0 with exl := false } := rfl
@[simp] theorem advance_ds (s : State) : (advance s).ds = none := by
  unfold advance
  split
  · rfl
  · assumption

theorem advance_pc_none {s : State} (h : s.ds = none) : (advance s).pc = addrAdd s s.pc 4#64 := by
  simp [advance, h]

theorem advance_pc_some {s : State} {t : Addr} (h : s.ds = some t) : (advance s).pc = t := by
  simp [advance, h]

/-! The fields of the FCSR under its updates -/

@[simp] theorem fccSet_rm (n : CcNum) (b : Bool) (x : Fcsr) : (fccSet n b x).rm = x.rm := rfl
@[simp] theorem fccSet_fs (n : CcNum) (b : Bool) (x : Fcsr) : (fccSet n b x).fs = x.fs := rfl
@[simp] theorem fccSet_cause (n : CcNum) (b : Bool) (x : Fcsr) : (fccSet n b x).cause = x.cause := rfl
@[simp] theorem fccSet_enables (n : CcNum) (b : Bool) (x : Fcsr) : (fccSet n b x).enables = x.enables := rfl
@[simp] theorem fccSet_flags (n : CcNum) (b : Bool) (x : Fcsr) : (fccSet n b x).flags = x.flags := rfl
@[simp] theorem fcsrSetCause_rm (c : Cause) (x : Fcsr) : (fcsrSetCause c x).rm = x.rm := rfl
@[simp] theorem fcsrSetCause_fs (c : Cause) (x : Fcsr) : (fcsrSetCause c x).fs = x.fs := rfl
@[simp] theorem fcsrSetCause_enables (c : Cause) (x : Fcsr) : (fcsrSetCause c x).enables = x.enables := rfl
@[simp] theorem fcsrSetCause_flags (c : Cause) (x : Fcsr) : (fcsrSetCause c x).flags = x.flags := rfl
@[simp] theorem fcsrSetCause_fcc (c : Cause) (x : Fcsr) : (fcsrSetCause c x).fcc = x.fcc := rfl
@[simp] theorem fcsrOrFlags_rm (c : Conds) (x : Fcsr) : (fcsrOrFlags c x).rm = x.rm := rfl
@[simp] theorem fcsrOrFlags_fs (c : Conds) (x : Fcsr) : (fcsrOrFlags c x).fs = x.fs := rfl
@[simp] theorem fcsrOrFlags_cause (c : Conds) (x : Fcsr) : (fcsrOrFlags c x).cause = x.cause := rfl
@[simp] theorem fcsrOrFlags_enables (c : Conds) (x : Fcsr) : (fcsrOrFlags c x).enables = x.enables := rfl
@[simp] theorem fcsrOrFlags_fcc (c : Conds) (x : Fcsr) : (fcsrOrFlags c x).fcc = x.fcc := rfl
@[simp] theorem fcsrSetCause_cause (c : Cause) (x : Fcsr) : (fcsrSetCause c x).cause = c := rfl
@[simp] theorem fcsrOrFlags_flags (c : Conds) (x : Fcsr) : (fcsrOrFlags c x).flags = unionConds x.flags c := rfl

/-! Reading a register or a condition code after a write -/

@[simp] theorem getFpr_setFpr_self (r : FReg) (v : Fpr) (s : State) : getFpr (setFpr r v s) r = v := by
  simp [getFpr]

theorem getFpr_setFpr_ne {r q : FReg} (h : q ≠ r) (v : Fpr) (s : State) : getFpr (setFpr r v s) q = getFpr s q := by
  have hne : r.toNat ≠ q.toNat := fun e => h (BitVec.eq_of_toNat_eq e.symm)
  simp [getFpr, Vector.getElem_set_ne _ _ hne]

theorem getFpr_congr {s t : State} (h : t.fpr = s.fpr) (r : FReg) : getFpr t r = getFpr s r := by
  simp [getFpr, h]

theorem getFpr_storeFpr_ne {r q : FReg} (h : q ≠ r) (f : Fmt) (v : BitVec 64) (s : State) :
    getFpr (storeFpr r f v s) q = getFpr s q := by
  cases f <;> exact getFpr_setFpr_ne h _ s

theorem getFpr_loseFpr_ne {r q : FReg} (h : q ≠ r) (s : State) : getFpr (loseFpr s r) q = getFpr s q :=
  getFpr_setFpr_ne h _ s

theorem getFpr_drawFpr_ne {r q : FReg} (h : q ≠ r) (f : Fmt) (s : State) : getFpr (drawFpr r f s) q = getFpr s q := by
  cases f <;> exact getFpr_setFpr_ne h _ s

@[simp] theorem fccGet_fccSet_self (n : CcNum) (b : Bool) (x : Fcsr) : fccGet (fccSet n b x) n = b := by
  simp [fccGet, fccSet]

theorem fccGet_fccSet_ne {n k : CcNum} (h : k ≠ n) (b : Bool) (x : Fcsr) : fccGet (fccSet n b x) k = fccGet x k := by
  have hne : n.toNat ≠ k.toNat := fun e => h (BitVec.eq_of_toNat_eq e.symm)
  simp [fccGet, fccSet, Vector.getElem_set_ne _ _ hne]

end Sys2Proof.Machine
end

