-- ==== Sys2Proof/Laws/Ops.lean ====
section
/-! SUPPORT. For each shared operation that ends a step: once, what it does on the operands it executes on, and once,
everything it can have done when it answers a next state. -/

namespace Sys2Proof.Machine

/-! Taking an exception -/

theorem raise_next {e : Exception} {s t : State} (h : raise e s = .next t) :
    s.cfg.traps = .architectural ∧ t = enterException e s := by
  unfold raise at h
  split at h
  · cases h
  · next hc => exact ⟨hc, by cases h; rfl⟩

theorem raise_exception {e : Exception} {s : State} {r : FaultRecord} (h : raise e s = .fault (.exception r)) :
    s.cfg.traps = .terminal ∧ r = faultRecord e s := by
  unfold raise at h
  split at h
  · next hc => exact ⟨hc, by cases h; rfl⟩
  · cases h

theorem raise_not_refused {e : Exception} {s : State} {r : Refusal} : raise e s ≠ .refused r := by
  unfold raise
  split <;> simp

/-! Signalling -/

theorem signal_completes {c : Cause} {write : State → State} {s : State} (h : causeTraps s.fcsr.enables c = false) :
    signal c write s = .next (advance (write (orFlags c.conds (setCause c s)))) := by
  simp [signal, h]

theorem signal_traps {c : Cause} {write : State → State} {s : State} (h : causeTraps s.fcsr.enables c = true) :
    signal c write s = raise (.floatingPoint c) (setCause c s) := by
  simp [signal, h]

theorem signal_next {c : Cause} {write : State → State} {s t : State} (h : signal c write s = .next t) :
    (causeTraps s.fcsr.enables c = true ∧ s.cfg.traps = .architectural ∧
        t = enterException (.floatingPoint c) (setCause c s)) ∨
      (causeTraps s.fcsr.enables c = false ∧ t = advance (write (orFlags c.conds (setCause c s)))) := by
  cases hc : causeTraps s.fcsr.enables c
  · rw [signal_completes hc] at h
    exact .inr ⟨rfl, by cases h; rfl⟩
  · rw [signal_traps hc] at h
    exact .inl ⟨rfl, (raise_next h).imp (by simp) id⟩

/-! The checks of R130 -/

theorem guarded_usable {i : Instr} {s : State} {body : Out} (h : Usable i s) : guarded i s body = body := by
  obtain ⟨h1, h2, h3⟩ := h
  simp [guarded, h1, h2, h3]

theorem guarded_next {i : Instr} {s t : State} {body : Out} (h : guarded i s body = .next t) :
    (s.cfg.traps = .architectural ∧
        (t = enterException (.coprocessorUnusable 1#2) s ∨ t = enterException .reservedInstruction s)) ∨
      (Usable i s ∧ body = .next t) := by
  unfold guarded at h
  split at h
  · exact .inl ⟨(raise_next h).1, .inl (raise_next h).2⟩
  · split at h
    · cases h
    · split at h
      · exact .inl ⟨(raise_next h).1, .inr (raise_next h).2⟩
      · next h1 h2 h3 => exact .inr ⟨⟨by simpa using h1, by simpa using h2, by simpa using h3⟩, h⟩

theorem valueFpr_readable {s : State} {r : FReg} {f : Fmt} (h : Readable s r f) :
    valueFpr s r f = some (operandBits s r f) := by
  simp only [Readable] at h
  simp [valueFpr, h]

theorem valueFpr_some {s : State} {r : FReg} {f : Fmt} {a : BitVec 64} (h : valueFpr s r f = some a) :
    Readable s r f ∧ a = operandBits s r f := by
  unfold valueFpr at h
  split at h
  · next hr => exact ⟨hr, by cases h; rfl⟩
  · cases h

theorem unlessUnimplemented_next {i : Instr} {ops : List (BitVec 64)} {s t : State} {body : Out}
    (h : unlessUnimplemented i ops s body = .next t) :
    (s.cfg.traps = .architectural ∧ t = enterException (.floatingPoint causeE) (setCause causeE s)) ∨
      (unimplementedOp s i ops = false ∧ body = .next t) := by
  unfold unlessUnimplemented at h
  split at h
  · exact .inl ((raise_next h).imp (by simp) id)
  · next hu => exact .inr ⟨by simpa using hu, h⟩

theorem countDraw_next {o : Out} {t : State} (h : countDraw o = .next t) :
    ∃ u, o = .next u ∧ t = { u with draws := u.draws + 1 } := by
  cases o with
  | next u => exact ⟨u, rfl, by cases h; rfl⟩
  | fault f => cases h
  | refused r => cases h

theorem countDraw_fault {o : Out} {f : Fault} (h : countDraw o = .fault f) : o = .fault f := by
  cases o with
  | next u => cases h
  | fault g => exact h
  | refused r => cases h

theorem countDraw_refused {o : Out} {r : Refusal} (h : countDraw o = .refused r) : o = .refused r := by
  cases o with
  | next u => cases h
  | fault g => cases h
  | refused q => exact h

/-- The draw of an unpredictable result: some signal of conditions the page of i lists, then one more draw counted. -/
def Drawn (i : Instr) (lost : List FReg) (free : State → State) (s t : State) : Prop :=
  s.cfg.unpredictable = .draw ∧ ∃ u, t = { u with draws := u.draws + 1 } ∧
    signal (causeOf (drawnConds i s)) (fun v => free (lost.foldl loseFpr v)) s = .next u

theorem unpredictableResult_next {why : Refusal} {i : Instr} {lost : List FReg} {write : State → State} {s t : State}
    (h : unpredictableResult why i lost write s = .next t) : Drawn i lost write s t := by
  unfold unpredictableResult at h
  split at h
  · cases h
  · next hu =>
    obtain ⟨u, hs, ht⟩ := countDraw_next h
    exact ⟨hu, u, ht, hs⟩

theorem sixteenMode_next {i : Instr} {f : Fmt} {write : State → State} {s t : State}
    (h : sixteenMode i f write s = .next t) : Drawn i [] write s t := by
  unfold sixteenMode at h
  split at h
  · exact unpredictableResult_next h
  · exact unpredictableResult_next h
  · cases h

/-- How a step can go on without its instruction's own effect: it enters an exception that is not the outcome of a
computation, or its unpredictable result is drawn, perhaps with the registers of `lost` unpredictable too. -/
inductive Detour (i : Instr) (lost : List FReg) (free : State → State) (s t : State) : Prop where
  | unusable (ha : s.cfg.traps = .architectural) (h : t = enterException (.coprocessorUnusable 1#2) s)
  | reserved (ha : s.cfg.traps = .architectural) (h : t = enterException .reservedInstruction s)
  | unimplemented (ha : s.cfg.traps = .architectural)
      (h : t = enterException (.floatingPoint causeE) (setCause causeE s))
  | sixteen (h : Drawn i [] free s t)
  | operands (h : Drawn i lost free s t)

theorem withOne_executes {i : Instr} {f : Fmt} {fs : FReg} {free : State → State} {s : State} {body : BitVec 64 → Out}
    (h : ExecutesOne i f fs s) : withOne i f fs free s body = body (operandBits s fs f) := by
  obtain ⟨hu, hm, hr, hn⟩ := h
  simp [withOne, guarded_usable hu, hm, valueFpr_readable hr, unlessUnimplemented, hn]

theorem withOne_next {i : Instr} {f : Fmt} {fs : FReg} {free : State → State} {s t : State} {body : BitVec 64 → Out}
    (h : withOne i f fs free s body = .next t) :
    Detour i [fs] free s t ∨ (ExecutesOne i f fs s ∧ body (operandBits s fs f) = .next t) := by
  rcases guarded_next h with ⟨ha, h | h⟩ | ⟨hu, h⟩
  · exact .inl (.unusable ha h)
  · exact .inl (.reserved ha h)
  · split at h
    · exact .inl (.sixteen (sixteenMode_next h))
    · next hm =>
      split at h
      · next a hv =>
        obtain ⟨hr, rfl⟩ := valueFpr_some hv
        rcases unlessUnimplemented_next h with ⟨ha, h⟩ | ⟨hn, h⟩
        · exact .inl (.unimplemented ha h)
        · exact .inr ⟨⟨hu, by simpa using hm, hr, hn⟩, h⟩
      · exact .inl (.operands (unpredictableResult_next h))

theorem withTwo_executes {i : Instr} {f : Fmt} {fs ft : FReg} {free : State → State} {s : State}
    {body : BitVec 64 → BitVec 64 → Out} (h : ExecutesTwo i f fs ft s) :
    withTwo i f fs ft free s body = body (operandBits s fs f) (operandBits s ft f) := by
  obtain ⟨hu, hm, hr, hr', hn⟩ := h
  simp [withTwo, guarded_usable hu, hm, valueFpr_readable hr, valueFpr_readable hr', unlessUnimplemented, hn]

theorem withTwo_next {i : Instr} {f : Fmt} {fs ft : FReg} {free : State → State} {s t : State}
    {body : BitVec 64 → BitVec 64 → Out} (h : withTwo i f fs ft free s body = .next t) :
    Detour i [fs, ft] free s t ∨
      (ExecutesTwo i f fs ft s ∧ body (operandBits s fs f) (operandBits s ft f) = .next t) := by
  rcases guarded_next h with ⟨ha, h | h⟩ | ⟨hu, h⟩
  · exact .inl (.unusable ha h)
  · exact .inl (.reserved ha h)
  · split at h
    · exact .inl (.sixteen (sixteenMode_next h))
    · next hm =>
      split at h
      · next a b hv hv' =>
        obtain ⟨hr, rfl⟩ := valueFpr_some hv
        obtain ⟨hr', rfl⟩ := valueFpr_some hv'
        rcases unlessUnimplemented_next h with ⟨ha, h⟩ | ⟨hn, h⟩
        · exact .inl (.unimplemented ha h)
        · exact .inr ⟨⟨hu, by simpa using hm, hr, hr', hn⟩, h⟩
      · exact .inl (.operands (unpredictableResult_next h))

theorem withNone_executes {i : Instr} {s : State} {body : Out} (h : ExecutesBranch i s) : withNone i s body = body := by
  obtain ⟨hu, hd, hn⟩ := h
  simp [withNone, guarded_usable hu, hd, unlessUnimplemented, hn]

theorem withNone_next {i : Instr} {s t : State} {body : Out} (h : withNone i s body = .next t) :
    (s.cfg.traps = .architectural ∧
        (t = enterException (.coprocessorUnusable 1#2) s ∨ t = enterException .reservedInstruction s ∨
          t = enterException (.floatingPoint causeE) (setCause causeE s))) ∨
      (ExecutesBranch i s ∧ body = .next t) := by
  rcases guarded_next h with ⟨ha, h | h⟩ | ⟨hu, h⟩
  · exact .inl ⟨ha, .inl h⟩
  · exact .inl ⟨ha, .inr (.inl h)⟩
  · split at h
    · cases h
    · next hd =>
      rcases unlessUnimplemented_next h with ⟨ha, h⟩ | ⟨hn, h⟩
      · exact .inl ⟨ha, .inr (.inr h)⟩
      · exact .inr ⟨⟨hu, by simpa using hd, hn⟩, h⟩

/-! The cycle -/

theorem runWord_instr {w : Word} {i : Instr} (h : decode w = .instr i) (s : State) : runWord w s = exec i s := by
  simp [runWord, h]

/-- Everything a step that answers a next state can have been. -/
theorem step_next {s t : State} (h : step s = .next t) :
    (s.cfg.traps = .architectural ∧
        (t = enterException (.addressErrorFetch s.pc) s ∨ t = enterException (.coprocessorUnusable 1#2) s)) ∨
      (isFinal s = false ∧ wordAligned s.pc = true ∧
        ∃ w i, fetchWord s s.pc = some w ∧ decode w = .instr i ∧ exec i s = .next t) := by
  unfold step cycle at h
  split at h
  · cases h
  · next hf =>
    split at h
    · exact .inl ⟨(raise_next h).1, .inl (raise_next h).2⟩
    · next ha =>
      split at h
      · cases h
      · next w hw =>
        unfold runWord at h
        split at h
        · next i hi => exact .inr ⟨by simpa using hf, by simpa using ha, w, i, hw, hi, h⟩
        · split at h
          · exact .inl ⟨(raise_next h).1, .inr (raise_next h).2⟩
          · cases h

end Sys2Proof.Machine
end

