-- ==== Sys2Proof/Laws/Exec.lean ====
section
/-! SUPPORT. What shape each of the 68 meanings has, once: a proof about every instruction splits on these five shapes
instead of the 68 constructors. -/

namespace Sys2Proof.Machine

/-- A branch (R150): the checks, then the move to the delay slot with the decided address pending. -/
def IsBranchShape (i : Instr) : Prop :=
  isBranch i = true ∧ isCompare i = false ∧ destReg i = none ∧ sourceRegs i = [] ∧ ccWritten i = [] ∧
    ∃ target : State → Addr, ∀ s, exec i s = withNone i s (.next (branchTo (target s) s))

/-- One operand register and a result in fd (R200, R203, R220, R240). -/
def IsOneShape (i : Instr) : Prop :=
  isBranch i = false ∧ isCompare i = false ∧ ccWritten i = [] ∧
    ∃ (fd fs : FReg) (fmt : Fmt) (res : Config → Fcsr → BitVec 64 → BitVec 64 × Conds),
      destReg i = some fd ∧ sourceRegs i = [fs] ∧
        ∀ s, exec i s = withOne i (sourceFmt i) fs (drawFpr fd fmt) s fun a =>
          signal (causeOf (res s.cfg s.fcsr a).2) (storeFpr fd fmt (res s.cfg s.fcsr a).1) s

/-- Two operand registers and a result in fd (R140, R215, R225, R245). -/
def IsTwoShape (i : Instr) : Prop :=
  isBranch i = false ∧ isCompare i = false ∧ ccWritten i = [] ∧
    ∃ (fd fs ft : FReg) (fmt : Fmt) (res : Config → Fcsr → BitVec 64 → BitVec 64 → BitVec 64 × Conds),
      destReg i = some fd ∧ sourceRegs i = [fs, ft] ∧
        ∀ s, exec i s = withTwo i (sourceFmt i) fs ft (drawFpr fd fmt) s fun a b =>
          signal (causeOf (res s.cfg s.fcsr a b).2) (storeFpr fd fmt (res s.cfg s.fcsr a b).1) s

/-- A compare of format S or D (R190, R191). -/
def IsCompareShape (i : Instr) : Prop :=
  isBranch i = false ∧ isCompare i = true ∧ destReg i = none ∧
    ∃ (cc : CcNum) (fs ft : FReg) (res : Config → BitVec 64 → BitVec 64 → Bool × Bool),
      ccWritten i = [cc] ∧ sourceRegs i = [fs, ft] ∧
        ∀ s, exec i s = withTwo i (sourceFmt i) fs ft (drawCc cc) s fun a b =>
          signal (causeOf (invalidIf (res s.cfg a b).2)) (setCc cc (res s.cfg a b).1) s

/-- A paired compare (R192). -/
def IsPairedCompareShape (i : Instr) : Prop :=
  isBranch i = false ∧ isCompare i = true ∧ destReg i = none ∧ sourceFmt i = .ps ∧
    ∃ (cc : CcNum) (fs ft : FReg) (lower upper : Config → BitVec 64 → BitVec 64 → Bool × Bool),
      ccWritten i = [cc, cc + 1#3] ∧ sourceRegs i = [fs, ft] ∧
        ∀ s, exec i s = withTwo i .ps fs ft (fun t => drawCc (cc + 1#3) (drawCc cc t)) s fun a b =>
          signal (causeOf (invalidIf ((lower s.cfg a b).2 || (upper s.cfg a b).2)))
            (fun t => setCc (cc + 1#3) (upper s.cfg a b).1 (setCc cc (lower s.cfg a b).1 t)) s

theorem reduce_shape {op : Config → Fcsr → BitVec 32 → BitVec 32 → BitVec 32 × Conds} {i : Instr} {fd fs ft : FReg}
    (h : ∀ s, exec i s = reduce op i fd fs ft s) (hb : isBranch i = false) (hc : isCompare i = false)
    (hw : ccWritten i = []) (hd : destReg i = some fd) (hr : sourceRegs i = [fs, ft]) (hf : sourceFmt i = .ps) :
    IsTwoShape i :=
  ⟨hb, hc, hw, fd, fs, ft, .ps,
    fun c f a b => pairUp (op c f (lowerHalf a) (upperHalf a)) (op c f (lowerHalf b) (upperHalf b)), hd, hr,
    fun s => by rw [h, hf]; rfl⟩

theorem compareS_shape {cond : BitVec 4} {i : Instr} {cc : CcNum} {fs ft : FReg}
    (h : ∀ s, exec i s = compareS cond i cc fs ft s) (hb : isBranch i = false) (hc : isCompare i = true)
    (hd : destReg i = none) (hw : ccWritten i = [cc]) (hr : sourceRegs i = [fs, ft]) (hf : sourceFmt i = .s) :
    IsCompareShape i :=
  ⟨hb, hc, hd, cc, fs, ft, fun c a b => cabs1 c.nan2008 single cond (lowerHalf a) (lowerHalf b), hw, hr,
    fun s => by rw [h, hf]; rfl⟩

theorem compareD_shape {cond : BitVec 4} {i : Instr} {cc : CcNum} {fs ft : FReg}
    (h : ∀ s, exec i s = compareD cond i cc fs ft s) (hb : isBranch i = false) (hc : isCompare i = true)
    (hd : destReg i = none) (hw : ccWritten i = [cc]) (hr : sourceRegs i = [fs, ft]) (hf : sourceFmt i = .d) :
    IsCompareShape i :=
  ⟨hb, hc, hd, cc, fs, ft, fun c a b => cabs1 c.nan2008 double cond a b, hw, hr, fun s => by rw [h, hf]; rfl⟩

theorem comparePs_shape {cond : BitVec 4} {i : Instr} {cc : CcNum} {fs ft : FReg}
    (h : ∀ s, exec i s = comparePs cond i cc fs ft s) (hb : isBranch i = false) (hc : isCompare i = true)
    (hd : destReg i = none) (hw : ccWritten i = [cc, cc + 1#3]) (hr : sourceRegs i = [fs, ft])
    (hf : sourceFmt i = .ps) : IsPairedCompareShape i :=
  ⟨hb, hc, hd, hf, cc, fs, ft, fun c a b => cabs1 c.nan2008 single cond (lowerHalf a) (lowerHalf b),
    fun c a b => cabs1 c.nan2008 single cond (upperHalf a) (upperHalf b), hw, hr, fun s => by rw [h]; rfl⟩

/-- Every instruction has one of the five shapes. -/
theorem exec_shape (i : Instr) :
    IsBranchShape i ∨ IsOneShape i ∨ IsTwoShape i ∨ IsCompareShape i ∨ IsPairedCompareShape i := by
  cases i
  case addrPs fd fs ft => exact .inr (.inr (.inl (reduce_shape (fun _ => rfl) rfl rfl rfl rfl rfl rfl)))
  case bc1any2f cc offset => exact .inl ⟨rfl, rfl, rfl, rfl, rfl, _, fun _ => rfl⟩
  case bc1any2t cc offset => exact .inl ⟨rfl, rfl, rfl, rfl, rfl, _, fun _ => rfl⟩
  case bc1any4f cc offset => exact .inl ⟨rfl, rfl, rfl, rfl, rfl, _, fun _ => rfl⟩
  case bc1any4t cc offset => exact .inl ⟨rfl, rfl, rfl, rfl, rfl, _, fun _ => rfl⟩
  case cabsFS cc fs ft => exact .inr (.inr (.inr (.inl (compareS_shape (fun _ => rfl) rfl rfl rfl rfl rfl rfl))))
  case cabsFD cc fs ft => exact .inr (.inr (.inr (.inl (compareD_shape (fun _ => rfl) rfl rfl rfl rfl rfl rfl))))
  case cabsFPs cc fs ft => exact .inr (.inr (.inr (.inr (comparePs_shape (fun _ => rfl) rfl rfl rfl rfl rfl rfl))))
  case cabsUnS cc fs ft => exact .inr (.inr (.inr (.inl (compareS_shape (fun _ => rfl) rfl rfl rfl rfl rfl rfl))))
  case cabsUnD cc fs ft => exact .inr (.inr (.inr (.inl (compareD_shape (fun _ => rfl) rfl rfl rfl rfl rfl rfl))))
  case cabsUnPs cc fs ft => exact .inr (.inr (.inr (.inr (comparePs_shape (fun _ => rfl) rfl rfl rfl rfl rfl rfl))))
  case cabsEqS cc fs ft => exact .inr (.inr (.inr (.inl (compareS_shape (fun _ => rfl) rfl rfl rfl rfl rfl rfl))))
  case cabsEqD cc fs ft => exact .inr (.inr (.inr (.inl (compareD_shape (fun _ => rfl) rfl rfl rfl rfl rfl rfl))))
  case cabsEqPs cc fs ft => exact .inr (.inr (.inr (.inr (comparePs_shape (fun _ => rfl) rfl rfl rfl rfl rfl rfl))))
  case cabsUeqS cc fs ft => exact .inr (.inr (.inr (.inl (compareS_shape (fun _ => rfl) rfl rfl rfl rfl rfl rfl))))
  case cabsUeqD cc fs ft => exact .inr (.inr (.inr (.inl (compareD_shape (fun _ => rfl) rfl rfl rfl rfl rfl rfl))))
  case cabsUeqPs cc fs ft => exact .inr (.inr (.inr (.inr (comparePs_shape (fun _ => rfl) rfl rfl rfl rfl rfl rfl))))
  case cabsOltS cc fs ft => exact .inr (.inr (.inr (.inl (compareS_shape (fun _ => rfl) rfl rfl rfl rfl rfl rfl))))
  case cabsOltD cc fs ft => exact .inr (.inr (.inr (.inl (compareD_shape (fun _ => rfl) rfl rfl rfl rfl rfl rfl))))
  case cabsOltPs cc fs ft => exact .inr (.inr (.inr (.inr (comparePs_shape (fun _ => rfl) rfl rfl rfl rfl rfl rfl))))
  case cabsUltS cc fs ft => exact .inr (.inr (.inr (.inl (compareS_shape (fun _ => rfl) rfl rfl rfl rfl rfl rfl))))
  case cabsUltD cc fs ft => exact .inr (.inr (.inr (.inl (compareD_shape (fun _ => rfl) rfl rfl rfl rfl rfl rfl))))
  case cabsUltPs cc fs ft => exact .inr (.inr (.inr (.inr (comparePs_shape (fun _ => rfl) rfl rfl rfl rfl rfl rfl))))
  case cabsOleS cc fs ft => exact .inr (.inr (.inr (.inl (compareS_shape (fun _ => rfl) rfl rfl rfl rfl rfl rfl))))
  case cabsOleD cc fs ft => exact .inr (.inr (.inr (.inl (compareD_shape (fun _ => rfl) rfl rfl rfl rfl rfl rfl))))
  case cabsOlePs cc fs ft => exact .inr (.inr (.inr (.inr (comparePs_shape (fun _ => rfl) rfl rfl rfl rfl rfl rfl))))
  case cabsUleS cc fs ft => exact .inr (.inr (.inr (.inl (compareS_shape (fun _ => rfl) rfl rfl rfl rfl rfl rfl))))
  case cabsUleD cc fs ft => exact .inr (.inr (.inr (.inl (compareD_shape (fun _ => rfl) rfl rfl rfl rfl rfl rfl))))
  case cabsUlePs cc fs ft => exact .inr (.inr (.inr (.inr (comparePs_shape (fun _ => rfl) rfl rfl rfl rfl rfl rfl))))
  case cabsSfS cc fs ft => exact .inr (.inr (.inr (.inl (compareS_shape (fun _ => rfl) rfl rfl rfl rfl rfl rfl))))
  case cabsSfD cc fs ft => exact .inr (.inr (.inr (.inl (compareD_shape (fun _ => rfl) rfl rfl rfl rfl rfl rfl))))
  case cabsSfPs cc fs ft => exact .inr (.inr (.inr (.inr (comparePs_shape (fun _ => rfl) rfl rfl rfl rfl rfl rfl))))
  case cabsNgleS cc fs ft => exact .inr (.inr (.inr (.inl (compareS_shape (fun _ => rfl) rfl rfl rfl rfl rfl rfl))))
  case cabsNgleD cc fs ft => exact .inr (.inr (.inr (.inl (compareD_shape (fun _ => rfl) rfl rfl rfl rfl rfl rfl))))
  case cabsNglePs cc fs ft => exact .inr (.inr (.inr (.inr (comparePs_shape (fun _ => rfl) rfl rfl rfl rfl rfl rfl))))
  case cabsSeqS cc fs ft => exact .inr (.inr (.inr (.inl (compareS_shape (fun _ => rfl) rfl rfl rfl rfl rfl rfl))))
  case cabsSeqD cc fs ft => exact .inr (.inr (.inr (.inl (compareD_shape (fun _ => rfl) rfl rfl rfl rfl rfl rfl))))
  case cabsSeqPs cc fs ft => exact .inr (.inr (.inr (.inr (comparePs_shape (fun _ => rfl) rfl rfl rfl rfl rfl rfl))))
  case cabsNglS cc fs ft => exact .inr (.inr (.inr (.inl (compareS_shape (fun _ => rfl) rfl rfl rfl rfl rfl rfl))))
  case cabsNglD cc fs ft => exact .inr (.inr (.inr (.inl (compareD_shape (fun _ => rfl) rfl rfl rfl rfl rfl rfl))))
  case cabsNglPs cc fs ft => exact .inr (.inr (.inr (.inr (comparePs_shape (fun _ => rfl) rfl rfl rfl rfl rfl rfl))))
  case cabsLtS cc fs ft => exact .inr (.inr (.inr (.inl (compareS_shape (fun _ => rfl) rfl rfl rfl rfl rfl rfl))))
  case cabsLtD cc fs ft => exact .inr (.inr (.inr (.inl (compareD_shape (fun _ => rfl) rfl rfl rfl rfl rfl rfl))))
  case cabsLtPs cc fs ft => exact .inr (.inr (.inr (.inr (comparePs_shape (fun _ => rfl) rfl rfl rfl rfl rfl rfl))))
  case cabsNgeS cc fs ft => exact .inr (.inr (.inr (.inl (compareS_shape (fun _ => rfl) rfl rfl rfl rfl rfl rfl))))
  case cabsNgeD cc fs ft => exact .inr (.inr (.inr (.inl (compareD_shape (fun _ => rfl) rfl rfl rfl rfl rfl rfl))))
  case cabsNgePs cc fs ft => exact .inr (.inr (.inr (.inr (comparePs_shape (fun _ => rfl) rfl rfl rfl rfl rfl rfl))))
  case cabsLeS cc fs ft => exact .inr (.inr (.inr (.inl (compareS_shape (fun _ => rfl) rfl rfl rfl rfl rfl rfl))))
  case cabsLeD cc fs ft => exact .inr (.inr (.inr (.inl (compareD_shape (fun _ => rfl) rfl rfl rfl rfl rfl rfl))))
  case cabsLePs cc fs ft => exact .inr (.inr (.inr (.inr (comparePs_shape (fun _ => rfl) rfl rfl rfl rfl rfl rfl))))
  case cabsNgtS cc fs ft => exact .inr (.inr (.inr (.inl (compareS_shape (fun _ => rfl) rfl rfl rfl rfl rfl rfl))))
  case cabsNgtD cc fs ft => exact .inr (.inr (.inr (.inl (compareD_shape (fun _ => rfl) rfl rfl rfl rfl rfl rfl))))
  case cabsNgtPs cc fs ft => exact .inr (.inr (.inr (.inr (comparePs_shape (fun _ => rfl) rfl rfl rfl rfl rfl rfl))))
  case cvtPsPw fd fs =>
    exact .inr (.inl ⟨rfl, rfl, rfl, fd, fs, .ps, fun c f x => pairUp (convertWS c f (upperHalf x)) (convertWS c f (lowerHalf x)), rfl, rfl,
      fun _ => rfl⟩)
  case cvtPwPs fd fs =>
    exact .inr (.inl ⟨rfl, rfl, rfl, fd, fs, .pw, fun _ f x => pairUp (convertSW f (upperHalf x)) (convertSW f (lowerHalf x)), rfl, rfl,
      fun _ => rfl⟩)
  case mulrPs fd fs ft => exact .inr (.inr (.inl (reduce_shape (fun _ => rfl) rfl rfl rfl rfl rfl rfl)))
  case recip1S fd fs =>
    exact .inr (.inl ⟨rfl, rfl, rfl, fd, fs, .s, fun c f => liftOne (recip1S c f) (recip1D c f) .s, rfl, rfl, fun _ => rfl⟩)
  case recip1D fd fs =>
    exact .inr (.inl ⟨rfl, rfl, rfl, fd, fs, .d, fun c f => liftOne (recip1S c f) (recip1D c f) .d, rfl, rfl, fun _ => rfl⟩)
  case recip1Ps fd fs =>
    exact .inr (.inl ⟨rfl, rfl, rfl, fd, fs, .ps, fun c f => liftOne (recip1S c f) (recip1D c f) .ps, rfl, rfl, fun _ => rfl⟩)
  case recip2S fd fs ft =>
    exact .inr (.inr (.inl ⟨rfl, rfl, rfl, fd, fs, ft, .s, fun c f => liftTwo (recip2S c f) (recip2D c f) .s, rfl, rfl,
      fun _ => rfl⟩))
  case recip2D fd fs ft =>
    exact .inr (.inr (.inl ⟨rfl, rfl, rfl, fd, fs, ft, .d, fun c f => liftTwo (recip2S c f) (recip2D c f) .d, rfl, rfl,
      fun _ => rfl⟩))
  case recip2Ps fd fs ft =>
    exact .inr (.inr (.inl ⟨rfl, rfl, rfl, fd, fs, ft, .ps, fun c f => liftTwo (recip2S c f) (recip2D c f) .ps, rfl, rfl,
      fun _ => rfl⟩))
  case rsqrt1S fd fs =>
    exact .inr (.inl ⟨rfl, rfl, rfl, fd, fs, .s, fun c f => liftOne (rsqrt1S c f) (rsqrt1D c f) .s, rfl, rfl, fun _ => rfl⟩)
  case rsqrt1D fd fs =>
    exact .inr (.inl ⟨rfl, rfl, rfl, fd, fs, .d, fun c f => liftOne (rsqrt1S c f) (rsqrt1D c f) .d, rfl, rfl, fun _ => rfl⟩)
  case rsqrt1Ps fd fs =>
    exact .inr (.inl ⟨rfl, rfl, rfl, fd, fs, .ps, fun c f => liftOne (rsqrt1S c f) (rsqrt1D c f) .ps, rfl, rfl, fun _ => rfl⟩)
  case rsqrt2S fd fs ft =>
    exact .inr (.inr (.inl ⟨rfl, rfl, rfl, fd, fs, ft, .s, fun c f => liftTwo (rsqrt2S c f) (rsqrt2D c f) .s, rfl, rfl,
      fun _ => rfl⟩))
  case rsqrt2D fd fs ft =>
    exact .inr (.inr (.inl ⟨rfl, rfl, rfl, fd, fs, ft, .d, fun c f => liftTwo (rsqrt2S c f) (rsqrt2D c f) .d, rfl, rfl,
      fun _ => rfl⟩))
  case rsqrt2Ps fd fs ft =>
    exact .inr (.inr (.inl ⟨rfl, rfl, rfl, fd, fs, ft, .ps, fun c f => liftTwo (rsqrt2S c f) (rsqrt2D c f) .ps, rfl, rfl,
      fun _ => rfl⟩))

end Sys2Proof.Machine
end

