-- ==== Sys2Proof/Laws/Faults.lean ====
section
/-! SUPPORT. What an instruction that ends the run by an exception records, once for all 68: `exec_fault`. -/

namespace Sys2Proof.Machine

/-- The fault records an exception an instruction can raise, on the state as it was but for Cause where the exception is
Floating Point (R273, R275, R279). -/
inductive Records (s : State) : Fault → Prop where
  | unusable : Records s (.exception (faultRecord (.coprocessorUnusable 1#2) s))
  | reserved : Records s (.exception (faultRecord .reservedInstruction s))
  | floatingPoint (c : Cause) : Records s (.exception (faultRecord (.floatingPoint c) (setCause c s)))

theorem raise_fault {e : Exception} {s : State} {f : Fault} (h : raise e s = .fault f) :
    s.cfg.traps = .terminal ∧ f = .exception (faultRecord e s) := by
  unfold raise at h
  split at h
  · next hc => exact ⟨hc, by cases h; rfl⟩
  · cases h

theorem signal_fault {c : Cause} {write : State → State} {s : State} {f : Fault} (h : signal c write s = .fault f) :
    Records s f := by
  unfold signal at h
  split at h
  · exact (raise_fault h).2 ▸ .floatingPoint c
  · cases h

theorem guarded_fault {i : Instr} {s : State} {body : Out} {f : Fault} (h : guarded i s body = .fault f) :
    Records s f ∨ body = .fault f := by
  unfold guarded at h
  split at h
  · exact .inl ((raise_fault h).2 ▸ .unusable)
  · split at h
    · cases h
    · split at h
      · exact .inl ((raise_fault h).2 ▸ .reserved)
      · exact .inr h

theorem unlessUnimplemented_fault {i : Instr} {ops : List (BitVec 64)} {s : State} {body : Out} {f : Fault}
    (h : unlessUnimplemented i ops s body = .fault f) : Records s f ∨ body = .fault f := by
  unfold unlessUnimplemented at h
  split at h
  · exact .inl ((raise_fault h).2 ▸ .floatingPoint causeE)
  · exact .inr h

theorem unpredictableResult_fault {why : Refusal} {i : Instr} {lost : List FReg} {write : State → State} {s : State}
    {f : Fault} (h : unpredictableResult why i lost write s = .fault f) : Records s f := by
  unfold unpredictableResult at h
  split at h
  · cases h
  · exact signal_fault (countDraw_fault h)

theorem sixteenMode_fault {i : Instr} {fmt : Fmt} {write : State → State} {s : State} {f : Fault}
    (h : sixteenMode i fmt write s = .fault f) : Records s f := by
  unfold sixteenMode at h
  split at h
  · exact unpredictableResult_fault h
  · exact unpredictableResult_fault h
  · cases h

theorem withOne_fault {i : Instr} {fmt : Fmt} {fs : FReg} {free : State → State} {s : State} {body : BitVec 64 → Out}
    {f : Fault} (h : withOne i fmt fs free s body = .fault f) :
    Records s f ∨ body (operandBits s fs fmt) = .fault f := by
  rcases guarded_fault h with h | h
  · exact .inl h
  · split at h
    · exact .inl (sixteenMode_fault h)
    · split at h
      · next hv =>
        obtain ⟨-, rfl⟩ := valueFpr_some hv
        exact unlessUnimplemented_fault h
      · exact .inl (unpredictableResult_fault h)

theorem withTwo_fault {i : Instr} {fmt : Fmt} {fs ft : FReg} {free : State → State} {s : State}
    {body : BitVec 64 → BitVec 64 → Out} {f : Fault} (h : withTwo i fmt fs ft free s body = .fault f) :
    Records s f ∨ body (operandBits s fs fmt) (operandBits s ft fmt) = .fault f := by
  rcases guarded_fault h with h | h
  · exact .inl h
  · split at h
    · exact .inl (sixteenMode_fault h)
    · split at h
      · next hv hv' =>
        obtain ⟨-, rfl⟩ := valueFpr_some hv
        obtain ⟨-, rfl⟩ := valueFpr_some hv'
        exact unlessUnimplemented_fault h
      · exact .inl (unpredictableResult_fault h)

theorem withNone_fault {i : Instr} {s : State} {body : Out} {f : Fault} (h : withNone i s body = .fault f) :
    Records s f ∨ body = .fault f := by
  rcases guarded_fault h with h | h
  · exact .inl h
  · split at h
    · cases h
    · exact unlessUnimplemented_fault h

/-- Everything a faulting instruction can have recorded, in every configuration. -/
theorem exec_fault {i : Instr} {s : State} {f : Fault} (h : exec i s = .fault f) : Records s f := by
  rcases exec_shape i with hs | hs | hs | hs | hs
  · obtain ⟨-, -, -, -, -, _, hx⟩ := hs
    rw [hx] at h
    exact (withNone_fault h).elim id nofun
  · obtain ⟨-, -, -, _, _, _, _, -, -, hx⟩ := hs
    exact (withOne_fault (hx s ▸ h)).elim id signal_fault
  · obtain ⟨-, -, -, _, _, _, _, _, -, -, hx⟩ := hs
    exact (withTwo_fault (hx s ▸ h)).elim id signal_fault
  · obtain ⟨-, -, -, _, _, _, _, -, -, hx⟩ := hs
    exact (withTwo_fault (hx s ▸ h)).elim id signal_fault
  · obtain ⟨-, -, -, -, _, _, _, _, _, -, -, hx⟩ := hs
    exact (withTwo_fault (hx s ▸ h)).elim id signal_fault

end Sys2Proof.Machine
end

