-- ==== Sys2Proof/Laws/Frame.lean ====
section
/-! SUPPORT. What an instruction that answers a next state can have done, once for all 68: `exec_next`. It entered an
exception, it completed, or it branched; and whatever it wrote before that is described by `Within`. -/

namespace Sys2Proof.Machine

theorem getFpr_setFpr (r q : FReg) (v : Fpr) (s : State) :
    getFpr (setFpr q v s) r = if q = r then v else getFpr s r := by
  simp only [getFpr, setFpr, Vector.getElem_set]
  simp [BitVec.toNat_inj]

theorem fccGet_fccSet (f : Fcsr) (n m : CcNum) (b : Bool) :
    fccGet (fccSet n b f) m = if n = m then b else fccGet f m := by
  simp only [fccGet, fccSet, Vector.getElem_set]
  simp [BitVec.toNat_inj]

theorem condsWithin_refl (a : Conds) : condsWithin a a = true := by
  simp [condsWithin]

theorem condsWithin_union (a b : Conds) : condsWithin a (unionConds a b) = true := by
  simp [condsWithin, unionConds, ← Bool.or_assoc]

theorem condsWithin_trans {a b c : Conds} (h : condsWithin a b = true) (h' : condsWithin b c = true) :
    condsWithin a c = true := by
  obtain ⟨a1, a2, a3, a4, a5⟩ := a
  simp only [condsWithin] at *
  revert h h'
  cases a1 <;> cases a2 <;> cases a3 <;> cases a4 <;> cases a5 <;> simp <;> intros <;> simp_all

/-- State u differs from s only in what instruction i may write before it ends: its destination register (and, where
results are drawn, the registers it reads), its condition codes, Cause, Flags that only grow, and the draws. -/
structure Within (i : Instr) (s u : State) : Prop where
  rest : u = { s with
    fpr := u.fpr, draws := u.draws
    fcsr := { s.fcsr with cause := u.fcsr.cause, flags := u.fcsr.flags, fcc := u.fcsr.fcc } }
  flags : condsWithin s.fcsr.flags u.fcsr.flags = true
  fcc : ∀ n, n ∉ ccWritten i → fccGet u.fcsr n = fccGet s.fcsr n
  fpr : ∀ r, destReg i ≠ some r → (s.cfg.unpredictable = .refuse ∨ r ∉ sourceRegs i) → getFpr u r = getFpr s r

theorem Within.refl (i : Instr) (s : State) : Within i s s :=
  ⟨rfl, condsWithin_refl _, fun _ _ => rfl, fun _ _ _ => rfl⟩

theorem Within.cfg {i : Instr} {s u : State} (h : Within i s u) : u.cfg = s.cfg := by rw [h.rest]

theorem Within.trans {i : Instr} {s t u : State} (h : Within i s t) (h' : Within i t u) : Within i s u := by
  refine ⟨?_, condsWithin_trans h.flags h'.flags, fun n hn => (h'.fcc n hn).trans (h.fcc n hn),
    fun r a b => (h'.fpr r a (by rw [h.cfg]; exact b)).trans (h.fpr r a b)⟩
  rw [h'.rest, h.rest]

theorem within_setCause (i : Instr) (c : Cause) (s : State) : Within i s (setCause c s) :=
  ⟨rfl, condsWithin_refl _, fun _ _ => rfl, fun _ _ _ => rfl⟩

theorem within_orFlags (i : Instr) (c : Conds) (s : State) : Within i s (orFlags c s) :=
  ⟨rfl, condsWithin_union _ _, fun _ _ => rfl, fun _ _ _ => rfl⟩

theorem within_draws (i : Instr) (n : Nat) (s : State) : Within i s { s with draws := n } :=
  ⟨rfl, condsWithin_refl _, fun _ _ => rfl, fun _ _ _ => rfl⟩

theorem within_storeFpr {i : Instr} {fd : FReg} (f : Fmt) (v : BitVec 64) (s : State) (h : destReg i = some fd) :
    Within i s (storeFpr fd f v s) := by
  refine ⟨by cases f <;> rfl, by rw [storeFpr_fcsr]; exact condsWithin_refl _, fun _ _ => by rw [storeFpr_fcsr],
    fun r hr _ => ?_⟩
  have hne : fd ≠ r := by
    rintro rfl
    exact hr h
  have hs : ∀ w : Fpr, getFpr (setFpr fd w s) r = getFpr s r := fun w => by rw [getFpr_setFpr, if_neg hne]
  cases f <;> exact hs _

theorem within_setCc {i : Instr} {n : CcNum} (b : Bool) (s : State) (h : n ∈ ccWritten i) :
    Within i s (setCc n b s) := by
  refine ⟨rfl, condsWithin_refl _, fun m hm => ?_, fun _ _ _ => rfl⟩
  have hne : n ≠ m := by
    rintro rfl
    exact hm h
  exact (fccGet_fccSet s.fcsr n m b).trans (if_neg hne)

theorem within_drawFpr {i : Instr} {fd : FReg} (f : Fmt) (s : State) (h : destReg i = some fd) :
    Within i s (drawFpr fd f s) :=
  (within_draws _ _ _).trans (within_storeFpr _ _ _ h)

theorem within_drawCc {i : Instr} {n : CcNum} (s : State) (h : n ∈ ccWritten i) : Within i s (drawCc n s) :=
  (within_draws _ _ _).trans (within_setCc _ _ h)

theorem within_loseFpr {i : Instr} {r : FReg} {s : State} (h : r ∈ sourceRegs i) (hu : s.cfg.unpredictable = .draw) :
    Within i s (loseFpr s r) := by
  refine ⟨rfl, condsWithin_refl _, fun _ _ => rfl, fun q _ hq => ?_⟩
  have hne : r ≠ q := by
    rintro rfl
    simp_all
  exact (getFpr_setFpr q r _ s).trans (if_neg hne)

theorem within_loss {i : Instr} {lost : List FReg} {s : State} (h : ∀ r ∈ lost, r ∈ sourceRegs i)
    (hu : s.cfg.unpredictable = .draw) : Within i s (lost.foldl loseFpr s) := by
  induction lost generalizing s with
  | nil => exact .refl _ _
  | cons a l ih =>
    exact (within_loseFpr (h a (by simp)) hu).trans (ih (s := loseFpr s a) (fun r hr => h r (by simp [hr])) hu)

/-- The three ways to a next state: an exception entered, a completed instruction, a branch. -/
inductive Ends (i : Instr) (s t : State) : Prop where
  | entered (ha : s.cfg.traps = .architectural) (e : Exception) (u : State) (hw : Within i s u)
      (h : t = enterException e u)
  | completed (hb : isBranch i = false) (u : State) (hw : Within i s u) (h : t = advance u)
  | branched (hb : isBranch i = true) (hd : s.ds = none) (a : Addr) (h : t = branchTo a s)

theorem signal_ends {i : Instr} {c : Cause} {write : State → State} {s t : State} (hb : isBranch i = false)
    (hw : ∀ v, v.cfg = s.cfg → Within i v (write v)) (h : signal c write s = .next t) : Ends i s t := by
  rcases signal_next h with ⟨-, ha, rfl⟩ | ⟨-, rfl⟩
  · exact .entered ha _ _ (within_setCause _ _ _) rfl
  · have ho := within_orFlags i c.conds (setCause c s)
    exact .completed hb _ ((within_setCause _ _ _).trans (ho.trans (hw _ rfl))) rfl

theorem drawn_ends {i : Instr} {lost : List FReg} {free : State → State} {s t : State} (hb : isBranch i = false)
    (hl : ∀ r ∈ lost, r ∈ sourceRegs i) (hw : ∀ v, Within i v (free v)) (h : Drawn i lost free s t) : Ends i s t := by
  obtain ⟨hu, u, rfl, h⟩ := h
  cases signal_ends hb (fun v hv => (within_loss hl (hv ▸ hu)).trans (hw _)) h with
  | entered ha e v hv h =>
    subst h
    exact .entered ha e { v with draws := v.draws + 1 } (hv.trans (within_draws _ _ _)) rfl
  | completed hb v hv h =>
    subst h
    refine .completed hb { v with draws := v.draws + 1 } (hv.trans (within_draws _ _ _)) ?_
    simp only [advance]
    split <;> rfl
  | branched hb' => simp [hb] at hb'

theorem detour_ends {i : Instr} {lost : List FReg} {free : State → State} {s t : State} (hb : isBranch i = false)
    (hl : ∀ r ∈ lost, r ∈ sourceRegs i) (hw : ∀ v, Within i v (free v)) (h : Detour i lost free s t) : Ends i s t := by
  cases h with
  | unusable ha h => exact .entered ha _ _ (.refl _ _) h
  | reserved ha h => exact .entered ha _ _ (.refl _ _) h
  | unimplemented ha h => exact .entered ha _ _ (within_setCause _ _ _) h
  | sixteen h => exact drawn_ends hb (by simp) hw h
  | operands h => exact drawn_ends hb hl hw h

/-- Everything an instruction that answers a next state can have done. -/
theorem exec_next {i : Instr} {s t : State} (h : exec i s = .next t) : Ends i s t := by
  rcases exec_shape i with hs | hs | hs | hs | hs
  · obtain ⟨hb, -, -, -, -, a, hx⟩ := hs
    rw [hx] at h
    rcases withNone_next h with ⟨ha, h | h | h⟩ | ⟨⟨-, hd, -⟩, h⟩
    · exact .entered ha _ _ (.refl _ _) h
    · exact .entered ha _ _ (.refl _ _) h
    · exact .entered ha _ _ (within_setCause _ _ _) h
    · cases h
      exact .branched hb hd _ rfl
  · obtain ⟨hb, -, -, fd, fs, f, res, hd, hr, hx⟩ := hs
    rw [hx] at h
    rcases withOne_next h with h | ⟨-, h⟩
    · exact detour_ends hb (by simp [hr]) (fun v => within_drawFpr _ v hd) h
    · exact signal_ends hb (fun v _ => within_storeFpr _ _ v hd) h
  · obtain ⟨hb, -, -, fd, fs, ft, f, res, hd, hr, hx⟩ := hs
    rw [hx] at h
    rcases withTwo_next h with h | ⟨-, h⟩
    · exact detour_ends hb (by simp [hr]) (fun v => within_drawFpr _ v hd) h
    · exact signal_ends hb (fun v _ => within_storeFpr _ _ v hd) h
  · obtain ⟨hb, -, -, cc, fs, ft, res, hw, hr, hx⟩ := hs
    rw [hx] at h
    have hc : cc ∈ ccWritten i := by simp [hw]
    rcases withTwo_next h with h | ⟨-, h⟩
    · exact detour_ends hb (by simp [hr]) (fun v => within_drawCc v hc) h
    · exact signal_ends hb (fun v _ => within_setCc _ v hc) h
  · obtain ⟨hb, -, -, -, cc, fs, ft, lower, upper, hw, hr, hx⟩ := hs
    rw [hx] at h
    have hc : cc ∈ ccWritten i := by simp [hw]
    have hc' : cc + 1#3 ∈ ccWritten i := by simp [hw]
    rcases withTwo_next h with h | ⟨-, h⟩
    · exact detour_ends hb (by simp [hr]) (fun v => (within_drawCc v hc).trans (within_drawCc _ hc')) h
    · exact signal_ends hb (fun v _ => (within_setCc _ v hc).trans (within_setCc _ _ hc')) h

end Sys2Proof.Machine
end

