-- ==== Sys2Proof/Laws/Memory.lean ====
section
/-! SUPPORT. Every memory operation keeps the canonical form of the text (strictly rising addresses), and the text after
reset has it. -/

namespace Sys2Proof.Machine

theorem memWrite_addr {m : Memory} {a : Nat} {b : Byte} {x : Host.Cell} (h : x ∈ memWrite m a b) :
    x = (a, b) ∨ x ∈ m := by
  induction m with
  | nil => simpa [memWrite] using h
  | cons c m ih =>
    unfold memWrite at h
    split at h
    · simpa using h
    · split at h
      · rcases List.mem_cons.mp h with h | h
        · exact .inl h
        · exact .inr (List.mem_cons_of_mem _ h)
      · rcases List.mem_cons.mp h with h | h
        · exact .inr (h ▸ List.mem_cons_self)
        · exact (ih h).imp id (List.mem_cons_of_mem _)

theorem memWrite_wf {m : Memory} (h : Memory.wf m) (a : Nat) (b : Byte) : Memory.wf (memWrite m a b) := by
  induction m with
  | nil => simp [memWrite, Memory.wf]
  | cons c m ih =>
    have hc := List.pairwise_cons.mp h
    unfold memWrite
    split
    · refine List.pairwise_cons.mpr ⟨fun x hx => ?_, h⟩
      rcases List.mem_cons.mp hx with rfl | hx
      · assumption
      · exact Nat.lt_trans ‹_› (hc.1 x hx)
    · split
      · subst_vars
        exact List.pairwise_cons.mpr ⟨hc.1, hc.2⟩
      · refine List.pairwise_cons.mpr ⟨fun x hx => ?_, ih hc.2⟩
        rcases memWrite_addr hx with rfl | hx
        · simp only
          omega
        · exact hc.1 x hx

theorem memWriteBytes_wf {m : Memory} (h : Memory.wf m) (a : Nat) (bs : List Byte) :
    Memory.wf (memWriteBytes m a bs) := by
  induction bs generalizing m a with
  | nil => exact h
  | cons b bs ih => exact ih (memWrite_wf h a b) (a + 1)

theorem loadWord_wf {s : State} (h : Memory.wf s.mem) (a : Addr) (w : Word) : Memory.wf (loadWord s a w).mem :=
  memWriteBytes_wf h _ _

theorem withFetchWord_wf {s : State} (h : Memory.wf s.mem) (nbits w : Nat) : Memory.wf (s.withFetchWord nbits w).mem :=
  loadWord_wf h _ _

theorem reset_wf : Memory.wf State.reset.mem := by simp [State.reset, Memory.wf]

end Sys2Proof.Machine
end

