-- ==== Sys2Proof/Laws/PerInstr.lean ====
section
/-! SUPPORT. A law of the instruction as syntax, made per instruction: every encoding is a COP1 word (R75). -/

namespace Sys2Proof.Laws.Cop1

/-- Bits 31..26 of the word are 010001, whatever the operands (R75). -/
def Statement (i : Instr) : Prop := isCop1 (encode i) = true

theorem addrPs (fd fs ft : FReg) : Statement (.addrPs fd fs ft) := isCop1_encodeFr3 _ _ _ _ _
theorem bc1any2f (cc : CcNum) (offset : BitVec 16) : Statement (.bc1any2f cc offset) := isCop1_encodeFb _ _ _ _
theorem bc1any2t (cc : CcNum) (offset : BitVec 16) : Statement (.bc1any2t cc offset) := isCop1_encodeFb _ _ _ _
theorem bc1any4f (cc : CcNum) (offset : BitVec 16) : Statement (.bc1any4f cc offset) := isCop1_encodeFb _ _ _ _
theorem bc1any4t (cc : CcNum) (offset : BitVec 16) : Statement (.bc1any4t cc offset) := isCop1_encodeFb _ _ _ _
theorem cabsFS (cc : CcNum) (fs ft : FReg) : Statement (.cabsFS cc fs ft) := isCop1_encodeFc _ _ _ _ _
theorem cabsFD (cc : CcNum) (fs ft : FReg) : Statement (.cabsFD cc fs ft) := isCop1_encodeFc _ _ _ _ _
theorem cabsFPs (cc : CcNum) (fs ft : FReg) : Statement (.cabsFPs cc fs ft) := isCop1_encodeFc _ _ _ _ _
theorem cabsUnS (cc : CcNum) (fs ft : FReg) : Statement (.cabsUnS cc fs ft) := isCop1_encodeFc _ _ _ _ _
theorem cabsUnD (cc : CcNum) (fs ft : FReg) : Statement (.cabsUnD cc fs ft) := isCop1_encodeFc _ _ _ _ _
theorem cabsUnPs (cc : CcNum) (fs ft : FReg) : Statement (.cabsUnPs cc fs ft) := isCop1_encodeFc _ _ _ _ _
theorem cabsEqS (cc : CcNum) (fs ft : FReg) : Statement (.cabsEqS cc fs ft) := isCop1_encodeFc _ _ _ _ _
theorem cabsEqD (cc : CcNum) (fs ft : FReg) : Statement (.cabsEqD cc fs ft) := isCop1_encodeFc _ _ _ _ _
theorem cabsEqPs (cc : CcNum) (fs ft : FReg) : Statement (.cabsEqPs cc fs ft) := isCop1_encodeFc _ _ _ _ _
theorem cabsUeqS (cc : CcNum) (fs ft : FReg) : Statement (.cabsUeqS cc fs ft) := isCop1_encodeFc _ _ _ _ _
theorem cabsUeqD (cc : CcNum) (fs ft : FReg) : Statement (.cabsUeqD cc fs ft) := isCop1_encodeFc _ _ _ _ _
theorem cabsUeqPs (cc : CcNum) (fs ft : FReg) : Statement (.cabsUeqPs cc fs ft) := isCop1_encodeFc _ _ _ _ _
theorem cabsOltS (cc : CcNum) (fs ft : FReg) : Statement (.cabsOltS cc fs ft) := isCop1_encodeFc _ _ _ _ _
theorem cabsOltD (cc : CcNum) (fs ft : FReg) : Statement (.cabsOltD cc fs ft) := isCop1_encodeFc _ _ _ _ _
theorem cabsOltPs (cc : CcNum) (fs ft : FReg) : Statement (.cabsOltPs cc fs ft) := isCop1_encodeFc _ _ _ _ _
theorem cabsUltS (cc : CcNum) (fs ft : FReg) : Statement (.cabsUltS cc fs ft) := isCop1_encodeFc _ _ _ _ _
theorem cabsUltD (cc : CcNum) (fs ft : FReg) : Statement (.cabsUltD cc fs ft) := isCop1_encodeFc _ _ _ _ _
theorem cabsUltPs (cc : CcNum) (fs ft : FReg) : Statement (.cabsUltPs cc fs ft) := isCop1_encodeFc _ _ _ _ _
theorem cabsOleS (cc : CcNum) (fs ft : FReg) : Statement (.cabsOleS cc fs ft) := isCop1_encodeFc _ _ _ _ _
theorem cabsOleD (cc : CcNum) (fs ft : FReg) : Statement (.cabsOleD cc fs ft) := isCop1_encodeFc _ _ _ _ _
theorem cabsOlePs (cc : CcNum) (fs ft : FReg) : Statement (.cabsOlePs cc fs ft) := isCop1_encodeFc _ _ _ _ _
theorem cabsUleS (cc : CcNum) (fs ft : FReg) : Statement (.cabsUleS cc fs ft) := isCop1_encodeFc _ _ _ _ _
theorem cabsUleD (cc : CcNum) (fs ft : FReg) : Statement (.cabsUleD cc fs ft) := isCop1_encodeFc _ _ _ _ _
theorem cabsUlePs (cc : CcNum) (fs ft : FReg) : Statement (.cabsUlePs cc fs ft) := isCop1_encodeFc _ _ _ _ _
theorem cabsSfS (cc : CcNum) (fs ft : FReg) : Statement (.cabsSfS cc fs ft) := isCop1_encodeFc _ _ _ _ _
theorem cabsSfD (cc : CcNum) (fs ft : FReg) : Statement (.cabsSfD cc fs ft) := isCop1_encodeFc _ _ _ _ _
theorem cabsSfPs (cc : CcNum) (fs ft : FReg) : Statement (.cabsSfPs cc fs ft) := isCop1_encodeFc _ _ _ _ _
theorem cabsNgleS (cc : CcNum) (fs ft : FReg) : Statement (.cabsNgleS cc fs ft) := isCop1_encodeFc _ _ _ _ _
theorem cabsNgleD (cc : CcNum) (fs ft : FReg) : Statement (.cabsNgleD cc fs ft) := isCop1_encodeFc _ _ _ _ _
theorem cabsNglePs (cc : CcNum) (fs ft : FReg) : Statement (.cabsNglePs cc fs ft) := isCop1_encodeFc _ _ _ _ _
theorem cabsSeqS (cc : CcNum) (fs ft : FReg) : Statement (.cabsSeqS cc fs ft) := isCop1_encodeFc _ _ _ _ _
theorem cabsSeqD (cc : CcNum) (fs ft : FReg) : Statement (.cabsSeqD cc fs ft) := isCop1_encodeFc _ _ _ _ _
theorem cabsSeqPs (cc : CcNum) (fs ft : FReg) : Statement (.cabsSeqPs cc fs ft) := isCop1_encodeFc _ _ _ _ _
theorem cabsNglS (cc : CcNum) (fs ft : FReg) : Statement (.cabsNglS cc fs ft) := isCop1_encodeFc _ _ _ _ _
theorem cabsNglD (cc : CcNum) (fs ft : FReg) : Statement (.cabsNglD cc fs ft) := isCop1_encodeFc _ _ _ _ _
theorem cabsNglPs (cc : CcNum) (fs ft : FReg) : Statement (.cabsNglPs cc fs ft) := isCop1_encodeFc _ _ _ _ _
theorem cabsLtS (cc : CcNum) (fs ft : FReg) : Statement (.cabsLtS cc fs ft) := isCop1_encodeFc _ _ _ _ _
theorem cabsLtD (cc : CcNum) (fs ft : FReg) : Statement (.cabsLtD cc fs ft) := isCop1_encodeFc _ _ _ _ _
theorem cabsLtPs (cc : CcNum) (fs ft : FReg) : Statement (.cabsLtPs cc fs ft) := isCop1_encodeFc _ _ _ _ _
theorem cabsNgeS (cc : CcNum) (fs ft : FReg) : Statement (.cabsNgeS cc fs ft) := isCop1_encodeFc _ _ _ _ _
theorem cabsNgeD (cc : CcNum) (fs ft : FReg) : Statement (.cabsNgeD cc fs ft) := isCop1_encodeFc _ _ _ _ _
theorem cabsNgePs (cc : CcNum) (fs ft : FReg) : Statement (.cabsNgePs cc fs ft) := isCop1_encodeFc _ _ _ _ _
theorem cabsLeS (cc : CcNum) (fs ft : FReg) : Statement (.cabsLeS cc fs ft) := isCop1_encodeFc _ _ _ _ _
theorem cabsLeD (cc : CcNum) (fs ft : FReg) : Statement (.cabsLeD cc fs ft) := isCop1_encodeFc _ _ _ _ _
theorem cabsLePs (cc : CcNum) (fs ft : FReg) : Statement (.cabsLePs cc fs ft) := isCop1_encodeFc _ _ _ _ _
theorem cabsNgtS (cc : CcNum) (fs ft : FReg) : Statement (.cabsNgtS cc fs ft) := isCop1_encodeFc _ _ _ _ _
theorem cabsNgtD (cc : CcNum) (fs ft : FReg) : Statement (.cabsNgtD cc fs ft) := isCop1_encodeFc _ _ _ _ _
theorem cabsNgtPs (cc : CcNum) (fs ft : FReg) : Statement (.cabsNgtPs cc fs ft) := isCop1_encodeFc _ _ _ _ _
theorem cvtPsPw (fd fs : FReg) : Statement (.cvtPsPw fd fs) := isCop1_encodeFr3 _ _ _ _ _
theorem cvtPwPs (fd fs : FReg) : Statement (.cvtPwPs fd fs) := isCop1_encodeFr3 _ _ _ _ _
theorem mulrPs (fd fs ft : FReg) : Statement (.mulrPs fd fs ft) := isCop1_encodeFr3 _ _ _ _ _
theorem recip1S (fd fs : FReg) : Statement (.recip1S fd fs) := isCop1_encodeFr3 _ _ _ _ _
theorem recip1D (fd fs : FReg) : Statement (.recip1D fd fs) := isCop1_encodeFr3 _ _ _ _ _
theorem recip1Ps (fd fs : FReg) : Statement (.recip1Ps fd fs) := isCop1_encodeFr3 _ _ _ _ _
theorem recip2S (fd fs ft : FReg) : Statement (.recip2S fd fs ft) := isCop1_encodeFr3 _ _ _ _ _
theorem recip2D (fd fs ft : FReg) : Statement (.recip2D fd fs ft) := isCop1_encodeFr3 _ _ _ _ _
theorem recip2Ps (fd fs ft : FReg) : Statement (.recip2Ps fd fs ft) := isCop1_encodeFr3 _ _ _ _ _
theorem rsqrt1S (fd fs : FReg) : Statement (.rsqrt1S fd fs) := isCop1_encodeFr3 _ _ _ _ _
theorem rsqrt1D (fd fs : FReg) : Statement (.rsqrt1D fd fs) := isCop1_encodeFr3 _ _ _ _ _
theorem rsqrt1Ps (fd fs : FReg) : Statement (.rsqrt1Ps fd fs) := isCop1_encodeFr3 _ _ _ _ _
theorem rsqrt2S (fd fs ft : FReg) : Statement (.rsqrt2S fd fs ft) := isCop1_encodeFr3 _ _ _ _ _
theorem rsqrt2D (fd fs ft : FReg) : Statement (.rsqrt2D fd fs ft) := isCop1_encodeFr3 _ _ _ _ _
theorem rsqrt2Ps (fd fs ft : FReg) : Statement (.rsqrt2Ps fd fs ft) := isCop1_encodeFr3 _ _ _ _ _

end Sys2Proof.Laws.Cop1
end

