-- ==== Sys2Proof/Tests/Slice0.lean ====
section
/-! SUPPORT. The model's own tests: the WellFormed smoke, words written out from the spec's encodings, numbers and single
steps of spec/95_test_vectors.md, and for every obligation with hypotheses a state and operands that meet them. -/

namespace Sys2Proof.Tests

open Sys2Proof.Machine

/-! Helpers -/

/-- The state after reset with the reference instance of the open functions, which spec/95 assumes. -/
def start : State := { State.reset with cfg := { Config.default with numerics := .reference } }

/-- A state with register r holding v in a format. -/
def put (r : FReg) (t : Tag) (v : BitVec 64) (s : State) : State := setFpr r ⟨t, v⟩ s

/-- Every Enable bit set. -/
def allConds : Conds := ⟨true, true, true, true, true⟩

/-- A state with the given Enables. -/
def enabling (e : Conds) (s : State) : State := { s with fcsr := { s.fcsr with enables := e } }

/-- A state with the given condition codes, FCC[0] first. -/
def codes (v : Vector Bool 8) (s : State) : State := { s with fcsr := { s.fcsr with fcc := v } }

/-- A state with exceptions entered as R276 describes. -/
def entering (s : State) : State := { s with cfg := { s.cfg with traps := .architectural } }

/-- The outcome is a next state with the property. -/
def nextWith (o : Out) (p : State → Bool) : Bool :=
  match o with
  | .next t => p t
  | _ => false

/-- The outcome is a next state. -/
def isNext (o : Out) : Bool := nextWith o fun _ => true

/-- The outcome is the refusal. -/
def refusedAs (o : Out) (r : Refusal) : Bool :=
  match o with
  | .refused q => q == r
  | _ => false

/-- The outcome is an exception with the property. -/
def faultWith (o : Out) (p : FaultRecord → Bool) : Bool :=
  match o with
  | .fault (.exception r) => p r
  | _ => false

/-! WellFormed: ill-formed terms are refused, for each check -/

theorem test_wf_branchTwo_odd : Instr.wellFormed (.bc1any2f 1#3 0#16) = false ∧
    Instr.wellFormed (.bc1any2t 7#3 0#16) = false := by decide

theorem test_wf_branchFour_misaligned : Instr.wellFormed (.bc1any4f 2#3 0#16) = false ∧
    Instr.wellFormed (.bc1any4t 5#3 0#16) = false := by decide

theorem test_wf_paired_odd : ∀ c : Cond, Instr.wellFormed (cabsInstr .ps c 3#3 0#5 0#5) = false := by
  intro c
  cases c <;> rfl

theorem test_wf_legal : Instr.wellFormed (.bc1any4t 4#3 0xFFFF#16) = true ∧
    Instr.wellFormed (.cabsFS 7#3 31#5 31#5) = true ∧ Instr.wellFormed (.cabsFPs 6#3 31#5 31#5) = true := by decide

/-! Decoding: for every constructor a word written from the mask and match of R82 and the field places of R80, with
every operand field non-zero -/

theorem test_decode_arithmetic :
    decode 0x46CA2498#32 = .instr (.addrPs 18#5 4#5 10#5) ∧
    decode 0x46801926#32 = .instr (.cvtPsPw 4#5 3#5) ∧
    decode 0x46C05264#32 = .instr (.cvtPwPs 9#5 10#5) ∧
    decode 0x46DA8B9A#32 = .instr (.mulrPs 14#5 17#5 26#5) ∧
    decode 0x4600C4DD#32 = .instr (.recip1S 19#5 24#5) ∧
    decode 0x4620FE1D#32 = .instr (.recip1D 24#5 31#5) ∧
    decode 0x46C03F5D#32 = .instr (.recip1Ps 29#5 7#5) ∧
    decode 0x460870DC#32 = .instr (.recip2S 3#5 14#5 8#5) ∧
    decode 0x4633AA1C#32 = .instr (.recip2D 8#5 21#5 19#5) ∧
    decode 0x46DEE35C#32 = .instr (.recip2Ps 13#5 28#5 30#5) ∧
    decode 0x4600249E#32 = .instr (.rsqrt1S 18#5 4#5) ∧
    decode 0x46205DDE#32 = .instr (.rsqrt1D 23#5 11#5) ∧
    decode 0x46C0971E#32 = .instr (.rsqrt1Ps 28#5 18#5) ∧
    decode 0x460CC89F#32 = .instr (.rsqrt2S 2#5 25#5 12#5) ∧
    decode 0x463709DF#32 = .instr (.rsqrt2D 7#5 1#5 23#5) ∧
    decode 0x46C3431F#32 = .instr (.rsqrt2Ps 12#5 8#5 3#5) := by decide

theorem test_decode_branches :
    decode 0x45289112#32 = .instr (.bc1any2f 2#3 0x9112#16) ∧
    decode 0x4539A223#32 = .instr (.bc1any2t 6#3 0xA223#16) ∧
    decode 0x4550B334#32 = .instr (.bc1any4f 4#3 0xB334#16) ∧
    decode 0x4551C445#32 = .instr (.bc1any4t 4#3 0xC445#16) := by decide

theorem test_decode_compares_s :
    decode 0x46034670#32 = .instr (.cabsFS 6#3 8#5 3#5) ∧
    decode 0x4605EA71#32 = .instr (.cabsUnS 2#3 29#5 5#5) ∧
    decode 0x46079D72#32 = .instr (.cabsEqS 5#3 19#5 7#5) ∧
    decode 0x46094973#32 = .instr (.cabsUeqS 1#3 9#5 9#5) ∧
    decode 0x460BF474#32 = .instr (.cabsOltS 4#3 30#5 11#5) ∧
    decode 0x460DA775#32 = .instr (.cabsUltS 7#3 20#5 13#5) ∧
    decode 0x460F5376#32 = .instr (.cabsOleS 3#3 10#5 15#5) ∧
    decode 0x4611FE77#32 = .instr (.cabsUleS 6#3 31#5 17#5) ∧
    decode 0x4613AA78#32 = .instr (.cabsSfS 2#3 21#5 19#5) ∧
    decode 0x46155D79#32 = .instr (.cabsNgleS 5#3 11#5 21#5) ∧
    decode 0x4617097A#32 = .instr (.cabsSeqS 1#3 1#5 23#5) ∧
    decode 0x4619B47B#32 = .instr (.cabsNglS 4#3 22#5 25#5) ∧
    decode 0x461B677C#32 = .instr (.cabsLtS 7#3 12#5 27#5) ∧
    decode 0x461D137D#32 = .instr (.cabsNgeS 3#3 2#5 29#5) ∧
    decode 0x461FBE7E#32 = .instr (.cabsLeS 6#3 23#5 31#5) ∧
    decode 0x46026A7F#32 = .instr (.cabsNgtS 2#3 13#5 2#5) := by decide

theorem test_decode_compares_d :
    decode 0x462E7F70#32 = .instr (.cabsFD 7#3 15#5 14#5) ∧
    decode 0x46302B71#32 = .instr (.cabsUnD 3#3 5#5 16#5) ∧
    decode 0x4632D672#32 = .instr (.cabsEqD 6#3 26#5 18#5) ∧
    decode 0x46348273#32 = .instr (.cabsUeqD 2#3 16#5 20#5) ∧
    decode 0x46363574#32 = .instr (.cabsOltD 5#3 6#5 22#5) ∧
    decode 0x4638D975#32 = .instr (.cabsUltD 1#3 27#5 24#5) ∧
    decode 0x463A8C76#32 = .instr (.cabsOleD 4#3 17#5 26#5) ∧
    decode 0x463C3F77#32 = .instr (.cabsUleD 7#3 7#5 28#5) ∧
    decode 0x463EE378#32 = .instr (.cabsSfD 3#3 28#5 30#5) ∧
    decode 0x46219679#32 = .instr (.cabsNgleD 6#3 18#5 1#5) ∧
    decode 0x4623427A#32 = .instr (.cabsSeqD 2#3 8#5 3#5) ∧
    decode 0x4625ED7B#32 = .instr (.cabsNglD 5#3 29#5 5#5) ∧
    decode 0x4627997C#32 = .instr (.cabsLtD 1#3 19#5 7#5) ∧
    decode 0x46294C7D#32 = .instr (.cabsNgeD 4#3 9#5 9#5) ∧
    decode 0x462BF77E#32 = .instr (.cabsLeD 7#3 30#5 11#5) ∧
    decode 0x462DA37F#32 = .instr (.cabsNgtD 3#3 20#5 13#5) := by decide

theorem test_decode_compares_ps :
    decode 0x46D9B470#32 = .instr (.cabsFPs 4#3 22#5 25#5) ∧
    decode 0x46DB6471#32 = .instr (.cabsUnPs 4#3 12#5 27#5) ∧
    decode 0x46DD1472#32 = .instr (.cabsEqPs 4#3 2#5 29#5) ∧
    decode 0x46DFBC73#32 = .instr (.cabsUeqPs 4#3 23#5 31#5) ∧
    decode 0x46C26C74#32 = .instr (.cabsOltPs 4#3 13#5 2#5) ∧
    decode 0x46C41C75#32 = .instr (.cabsUltPs 4#3 3#5 4#5) ∧
    decode 0x46C6C476#32 = .instr (.cabsOlePs 4#3 24#5 6#5) ∧
    decode 0x46C87477#32 = .instr (.cabsUlePs 4#3 14#5 8#5) ∧
    decode 0x46CA2478#32 = .instr (.cabsSfPs 4#3 4#5 10#5) ∧
    decode 0x46CCCC79#32 = .instr (.cabsNglePs 4#3 25#5 12#5) ∧
    decode 0x46CE7C7A#32 = .instr (.cabsSeqPs 4#3 15#5 14#5) ∧
    decode 0x46D02C7B#32 = .instr (.cabsNglPs 4#3 5#5 16#5) ∧
    decode 0x46D2D47C#32 = .instr (.cabsLtPs 4#3 26#5 18#5) ∧
    decode 0x46D4847D#32 = .instr (.cabsNgePs 4#3 16#5 20#5) ∧
    decode 0x46D6347E#32 = .instr (.cabsLePs 4#3 6#5 22#5) ∧
    decode 0x46D8DC7F#32 = .instr (.cabsNgtPs 4#3 27#5 24#5) := by decide

/-! Words that are refused (spec/95 2.3, 2.4, 2.8) -/

theorem test_decode_rejects :
    decode 0x45240001#32 = .reject .ccAlignment ∧ decode 0x45480001#32 = .reject .ccAlignment ∧
    decode 0x45440001#32 = .reject .ccAlignment ∧ decode 0x45220001#32 = .reject .reservedNd ∧
    decode 0x46C10174#32 = .reject .ccAlignment ∧ decode 0x46C1003F#32 = .reject .notInScope ∧
    decode 0x00000000#32 = .reject .notInScope ∧ decode 0x46810026#32 = .reject .notInScope := by decide

/-- Both byte orders of R52, and the numbering of the opcode table. -/
theorem test_decode_bytes :
    decodeBytes true [0x46#8, 0xC1#8, 0x00#8, 0x98#8] = .instr (.addrPs 2#5 0#5 1#5) ∧
    decodeBytes false [0x98#8, 0x00#8, 0xC1#8, 0x46#8] = .instr (.addrPs 2#5 0#5 1#5) ∧
    decodeBytes true [0x46#8, 0xC1#8, 0x00#8] = .reject .notInScope ∧
    decodeTableWord 32 0x46C10098 = some (.addrPs 2#5 0#5 1#5) := by decide

/-! Numbers (spec/95 2.1, 2.2, 2.5, 2.6, 2.7): the four rounding modes in the order RN, RZ, RP, RM -/

/-- The FCSR of `start` in a rounding mode. -/
def fcsrIn (m : RoundingMode) : Fcsr := { start.fcsr with rm := m }

/-- The bits a function gives in the four modes. -/
def inModes (f : Fcsr → BitVec 32 × Conds) : List (BitVec 32) :=
  [(f (fcsrIn .rn)).1, (f (fcsrIn .rz)).1, (f (fcsrIn .rp)).1, (f (fcsrIn .rm)).1]

theorem test_addS_rounds :
    inModes (fun f => addS start.cfg f 0x3F800000#32 0x33800000#32) = [0x3F800000#32, 0x3F800000#32, 0x3F800001#32, 0x3F800000#32] ∧
    inModes (fun f => addS start.cfg f 0x4B000001#32 0x3F000000#32) = [0x4B000002#32, 0x4B000001#32, 0x4B000002#32, 0x4B000001#32] ∧
    inModes (fun f => addS start.cfg f 0x3DCCCCCD#32 0x3E4CCCCD#32) = [0x3E99999A#32, 0x3E999999#32, 0x3E99999A#32, 0x3E999999#32] ∧
    inModes (fun f => addS start.cfg f 0x7F7FFFFF#32 0x7F7FFFFF#32) = [0x7F800000#32, 0x7F7FFFFF#32, 0x7F800000#32, 0x7F7FFFFF#32] ∧
    inModes (fun f => addS start.cfg f 0xFF7FFFFF#32 0xFF7FFFFF#32) = [0xFF800000#32, 0xFF7FFFFF#32, 0xFF7FFFFF#32, 0xFF800000#32] ∧
    inModes (fun f => addS start.cfg f 0x3FC00000#32 0xBFC00000#32) = [0x00000000#32, 0x00000000#32, 0x00000000#32, 0x80000000#32] ∧
    inModes (fun f => addS start.cfg f 0x00800000#32 0x80000001#32) = [0x007FFFFF#32, 0x007FFFFF#32, 0x007FFFFF#32, 0x007FFFFF#32] ∧
    inModes (fun f => addS start.cfg f 0x7F800000#32 0xFF800000#32) = [0x7FBFFFFF#32, 0x7FBFFFFF#32, 0x7FBFFFFF#32, 0x7FBFFFFF#32] := by decide

theorem test_mulS_rounds :
    inModes (fun f => mulS start.cfg f 0x3F800001#32 0x3F800001#32) = [0x3F800002#32, 0x3F800002#32, 0x3F800003#32, 0x3F800002#32] ∧
    inModes (fun f => mulS start.cfg f 0x00800000#32 0x00800000#32) = [0x00000000#32, 0x00000000#32, 0x00000001#32, 0x00000000#32] ∧
    inModes (fun f => mulS start.cfg f 0x00FFFFFF#32 0x3F000000#32) = [0x00800000#32, 0x007FFFFF#32, 0x00800000#32, 0x007FFFFF#32] ∧
    inModes (fun f => mulS start.cfg f 0x8D800000#32 0x0D800000#32) = [0x80000000#32, 0x80000000#32, 0x80000000#32, 0x80000001#32] ∧
    inModes (fun f => mulS start.cfg f 0x7F800000#32 0xBF800000#32) = [0xFF800000#32, 0xFF800000#32, 0xFF800000#32, 0xFF800000#32] ∧
    inModes (fun f => mulS start.cfg f 0x3DCCCCCD#32 0x3E4CCCCD#32) = [0x3CA3D70B#32, 0x3CA3D70A#32, 0x3CA3D70B#32, 0x3CA3D70A#32] := by decide

theorem test_convertWS_rounds :
    inModes (fun f => convertWS start.cfg f 0x01000003#32) = [0x4B800002#32, 0x4B800001#32, 0x4B800002#32, 0x4B800001#32] ∧
    inModes (fun f => convertWS start.cfg f 0xFEFFFFFF#32) = [0xCB800000#32, 0xCB800000#32, 0xCB800000#32, 0xCB800001#32] ∧
    inModes (fun f => convertWS start.cfg f 0x7FFFFFFF#32) = [0x4F000000#32, 0x4EFFFFFF#32, 0x4F000000#32, 0x4EFFFFFF#32] ∧
    inModes (fun f => convertWS start.cfg f 0x80000000#32) = [0xCF000000#32, 0xCF000000#32, 0xCF000000#32, 0xCF000000#32] ∧
    inModes (fun f => convertWS start.cfg f 0x00000000#32) = [0x00000000#32, 0x00000000#32, 0x00000000#32, 0x00000000#32] := by decide

theorem test_convertSW_rounds :
    inModes (fun f => convertSW f 0xBFC00000#32) = [0xFFFFFFFE#32, 0xFFFFFFFF#32, 0xFFFFFFFF#32, 0xFFFFFFFE#32] ∧
    inModes (fun f => convertSW f 0x40200000#32) = [0x00000002#32, 0x00000002#32, 0x00000003#32, 0x00000002#32] ∧
    inModes (fun f => convertSW f 0x00000001#32) = [0x00000000#32, 0x00000000#32, 0x00000001#32, 0x00000000#32] ∧
    inModes (fun f => convertSW f 0x4EFFFFFF#32) = [0x7FFFFF80#32, 0x7FFFFF80#32, 0x7FFFFF80#32, 0x7FFFFF80#32] ∧
    inModes (fun f => convertSW f 0x4F000000#32) = [0x7FFFFFFF#32, 0x7FFFFFFF#32, 0x7FFFFFFF#32, 0x7FFFFFFF#32] ∧
    inModes (fun f => convertSW f 0xCF000000#32) = [0x80000000#32, 0x80000000#32, 0x80000000#32, 0x80000000#32] ∧
    inModes (fun f => convertSW f 0xCF000001#32) = [0x7FFFFFFF#32, 0x7FFFFFFF#32, 0x7FFFFFFF#32, 0x7FFFFFFF#32] := by decide

theorem test_recip1S_rounds :
    inModes (fun f => recip1S start.cfg f 0x40400000#32) = [0x3EAAAAAB#32, 0x3EAAAAAA#32, 0x3EAAAAAB#32, 0x3EAAAAAA#32] ∧
    inModes (fun f => recip1S start.cfg f 0x7F7FFFFF#32) = [0x00200000#32, 0x00200000#32, 0x00200001#32, 0x00200000#32] ∧
    inModes (fun f => recip1S start.cfg f 0x80000000#32) = [0xFF7FFFFF#32, 0xFF7FFFFF#32, 0xFF7FFFFF#32, 0xFF7FFFFF#32] ∧
    inModes (fun f => recip1S start.cfg f 0xFF800000#32) = [0x80000000#32, 0x80000000#32, 0x80000000#32, 0x80000000#32] := by decide

theorem test_recip2S_rounds :
    inModes (fun f => recip2S start.cfg f 0x3EAAAAAB#32 0x40400000#32) = [0xB3000000#32, 0xB3000000#32, 0xB3000000#32, 0xB3000000#32] ∧
    inModes (fun f => recip2S start.cfg f 0x3F800001#32 0x3F800001#32) = [0xB4800000#32, 0xB4800000#32, 0xB4800000#32, 0xB4800001#32] ∧
    inModes (fun f => recip2S start.cfg f 0x3F000000#32 0x40000000#32) = [0x00000000#32, 0x00000000#32, 0x00000000#32, 0x00000000#32] := by decide

theorem test_rsqrt1S_rounds :
    inModes (fun f => rsqrt1S start.cfg f 0x40800000#32) = [0x3F000000#32, 0x3F000000#32, 0x3F000000#32, 0x3F000000#32] ∧
    inModes (fun f => rsqrt1S start.cfg f 0x3E800000#32) = [0x40000000#32, 0x40000000#32, 0x40000000#32, 0x40000000#32] ∧
    inModes (fun f => rsqrt1S start.cfg f 0xC0800000#32) = [0x7FBFFFFF#32, 0x7FBFFFFF#32, 0x7FBFFFFF#32, 0x7FBFFFFF#32] := by decide

theorem test_rsqrt2S_rounds :
    inModes (fun f => rsqrt2S start.cfg f 0x3FB50000#32 0x3F350000#32) = [0x38E00000#32, 0x38E00000#32, 0x38E00000#32, 0x38E00000#32] ∧
    inModes (fun f => rsqrt2S start.cfg f 0x3F000000#32 0x3F800000#32) = [0x3E800000#32, 0x3E800000#32, 0x3E800000#32, 0x3E800000#32] := by decide

/-- The sixteen conditions on one row of spec/95 2.4: a quiet NaN against 1.0. -/
theorem test_cabs1_quietNaN : ([Cond.f, .un, .eq, .ueq, .olt, .ult, .ole, .ule, .sf, .ngle, .seq, .ngl, .lt, .nge, .le, .ngt].map
    fun c => cabs1 false single (Cond.bits c) 0x7FBFFFFF#32 0x3F800000#32) =
    [(false, false), (true, false), (false, false), (true, false), (false, false), (true, false), (false, false),
      (true, false), (false, true), (true, true), (false, true), (true, true), (false, true), (true, true),
      (false, true), (true, true)] := by decide

/-- Greater magnitudes: -4.0 against 1.0 is neither less nor equal. -/
theorem test_cabs1_greater : cabs1 false single (Cond.bits .ngt) 0xC0800000#32 0x3F800000#32 = (false, false) := by
  decide

/-! Single steps (spec/95 and the worked examples of the instruction rules) -/

/-- f0 and f1 of the first vector of spec/95 2.1. -/
def sums : State := put 1#5 .ps 0x3F80000040000000#64 (put 0#5 .ps 0x4040000040900000#64 start)

/-- The crossing of ADDR.PS: ft feeds the lower result. -/
theorem test_addrPs : nextWith (exec (.addrPs 2#5 0#5 1#5) sums) (fun t => decide (getFpr t 2#5 = ⟨.ps, 0x40F0000040400000#64⟩))
    = true := by decide

/-- The destination is also both sources. -/
theorem test_addrPs_same : nextWith (exec (.addrPs 0#5 0#5 0#5) sums)
    (fun t => decide (getFpr t 0#5 = ⟨.ps, 0x40F0000040F00000#64⟩)) = true := by decide

/-- +inf and -inf in the upper pair: V in Cause and Flags, the default NaN in that half only. -/
theorem test_mulrPs_invalid : nextWith (exec (.mulrPs 3#5 0#5 1#5)
      (put 1#5 .ps 0xBFC0000040800000#64 (put 0#5 .raw64 0x7F80000000000000#64 start)))
    (fun t => decide (getFpr t 3#5 = ⟨.ps, 0x7FBFFFFFC0C00000#64⟩ ∧ t.fcsr.flags = condV ∧ t.fcsr.cause = causeOf condV))
    = true := by decide

theorem test_mulrPs : nextWith (exec (.mulrPs 3#5 0#5 1#5)
      (put 1#5 .ps 0xBFC0000040800000#64 (put 0#5 .ps 0x4040000040000000#64 start)))
    (fun t => decide (getFpr t 3#5 = ⟨.ps, 0x40C00000C0C00000#64⟩)) = true := by decide

theorem test_cvtPsPw : nextWith (exec (.cvtPsPw 1#5 0#5) (put 0#5 .pw 0x075BCD15FFFFFFFD#64 start))
    (fun t => decide (getFpr t 1#5 = ⟨.ps, 0x4CEB79A3C0400000#64⟩ ∧ t.fcsr.cause = causeOf condI)) = true := by decide

theorem test_cvtPwPs : nextWith (exec (.cvtPwPs 4#5 2#5) (put 2#5 .ps 0x4F0000003FC00000#64 start))
    (fun t => decide (getFpr t 4#5 = ⟨.pw, 0x7FFFFFFF00000002#64⟩ ∧ t.fcsr.flags = ⟨true, false, false, false, true⟩))
    = true := by decide

/-- The same with Enables.V: the trap writes Cause and nothing else. -/
theorem test_cvtPwPs_traps : faultWith (exec (.cvtPwPs 4#5 2#5) (enabling condV (put 2#5 .ps 0x4F0000003FC00000#64 start)))
    (fun r => decide (r.exception = .floatingPoint ⟨false, ⟨true, false, false, false, true⟩⟩ ∧
      getFpr r.recorded 4#5 = ⟨.reset, 0#64⟩ ∧ r.recorded.fcsr.flags = noConds)) = true := by decide

theorem test_bc1any2t_taken : nextWith (exec (.bc1any2t 2#3 2#16) (codes #v[false, false, true, true, false, false, false, false] { start with pc := 0x1004#64 }))
    (fun t => t.pc == 0x1008#64 && t.ds == some 0x1010#64) = true := by decide

theorem test_bc1any2t_wraps : nextWith (exec (.bc1any2t 0#3 (-3#16)) (codes #v[true, false, false, false, false, false, false, false] { start with pc := 4#64 }))
    (fun t => t.pc == 8#64 && t.ds == some 0xFFFFFFFFFFFFFFFC#64) = true := by decide

theorem test_bc1any2f_taken : nextWith (exec (.bc1any2f 4#3 3#16) (codes #v[true, true, true, true, true, false, true, true] { start with pc := 0x1000#64 }))
    (fun t => t.pc == 0x1004#64 && t.ds == some 0x1010#64) = true := by decide

theorem test_bc1any2f_notTaken : nextWith (exec (.bc1any2f 4#3 3#16) (codes #v[false, false, false, false, true, true, false, false] { start with pc := 0x1000#64 }))
    (fun t => t.pc == 0x1004#64 && t.ds == some 0x1008#64) = true := by decide

theorem test_bc1any4f_ownSlot : nextWith (exec (.bc1any4f 0#3 0#16) (codes #v[true, true, true, false, true, true, true, true] { start with pc := 0x2000#64 }))
    (fun t => t.pc == 0x2004#64 && t.ds == some 0x2004#64) = true := by decide

theorem test_bc1any4t_taken : nextWith (exec (.bc1any4t 4#3 (-1#16)) (codes #v[false, false, false, false, false, true, false, false] { start with pc := 0x4000#64 }))
    (fun t => t.pc == 0x4004#64 && t.ds == some 0x4000#64) = true := by decide

theorem test_cabsLtPs : nextWith (exec (.cabsLtPs 2#3 0#5 1#5)
      (put 1#5 .ps 0xC040000040900000#64 (put 0#5 .ps 0x3F800000C0000000#64 start)))
    (fun t => decide (t.fcsr.fcc = #v[false, false, true, true, false, false, false, false])) = true := by decide +kernel

/-- The absolute value is what distinguishes CABS: -3.0 is not below 2.0. -/
theorem test_cabsLtS : nextWith (exec (.cabsLtS 0#3 0#5 1#5)
      (put 1#5 .s 0x40000000#64 (put 0#5 .s 0xC0400000#64 start))) (fun t => !fccGet t.fcsr 0#3) = true := by decide +kernel

theorem test_cabsUeqD : nextWith (exec (.cabsUeqD 0#3 2#5 4#5)
      (put 4#5 .d 0xC000000000000000#64 (put 2#5 .d 0x4000000000000000#64 start))) (fun t => fccGet t.fcsr 0#3)
    = true := by decide +kernel

theorem test_cabsNgePs : nextWith (exec (.cabsNgePs 2#3 0#5 1#5)
      (put 1#5 .ps 0x3F80000040000000#64 (put 0#5 .ps 0x7FBFFFFF3F800000#64 start)))
    (fun t => fccGet t.fcsr 3#3 && fccGet t.fcsr 2#3 && t.fcsr.flags.v) = true := by decide +kernel

theorem test_recip2D : nextWith (exec (.recip2D 2#5 1#5 0#5)
      (put 0#5 .d 0x4008000000000000#64 (put 1#5 .d 0x3FD0000000000000#64 start)))
    (fun t => decide (getFpr t 2#5 = ⟨.d, 0x3FD0000000000000#64⟩)) = true := by decide +kernel

/-- The upper half of an S result is free; the tag and the lower half are not. -/
theorem test_rsqrt2S : nextWith (exec (.rsqrt2S 3#5 2#5 1#5)
      (put 1#5 .s 0x3F800000#64 (put 2#5 .s 0x3F000000#64 start)))
    (fun t => decide ((getFpr t 3#5).tag = .s ∧ t.draws = 1)) = true := by decide +kernel

theorem test_recip1Ps_fixed : nextWith (exec (.recip1Ps 1#5 0#5) (put 0#5 .ps 0x7F80000000000000#64 start))
    (fun t => decide (getFpr t 1#5 = ⟨.ps, 0x000000007F7FFFFF#64⟩)) = true := by decide +kernel

theorem test_rsqrt1D : nextWith (exec (.rsqrt1D 1#5 0#5) (put 0#5 .d 0x4010000000000000#64 start))
    (fun t => decide (getFpr t 1#5 = ⟨.d, 0x3FE0000000000000#64⟩)) = true := by decide +kernel

/-! The checks of R130 (spec/95 2.8) -/

theorem test_check_cu1 : faultWith (exec (.addrPs 2#5 0#5 1#5) { sums with cu1 := false })
    (fun r => r.exception == .coprocessorUnusable 1#2) = true := by decide

theorem test_check_impl : faultWith (exec (.recip1Ps 1#5 0#5) { start with cfg := { start.cfg with lacking := [.recip1Ps] } })
    (fun r => r.exception == .reservedInstruction) = true := by decide

theorem test_check_sixteen : refusedAs (exec (.cabsLtS 0#3 0#5 1#5) { start with fp32regs := false }) .sixteenRegisterMode
    = true ∧ isNext (exec (.bc1any2t 2#3 2#16) { start with fp32regs := false }) = true := by decide

theorem test_check_format : refusedAs (exec (.cabsLtS 0#3 0#5 1#5) sums) .operandFormat = true ∧
    refusedAs (exec (.addrPs 2#5 0#5 1#5) (put 0#5 .none 0#64 sums)) .operandFormat = true := by decide

theorem test_check_slot : refusedAs (exec (.bc1any4f 0#3 1#16) { start with ds := some 0x1000#64 }) .branchInDelaySlot
    = true := by decide

/-- A fault in a delay slot records the branch to resume at (R277). -/
theorem test_check_slotFault : faultWith (exec (.cvtPwPs 1#5 0#5)
      (enabling condV (put 0#5 .ps 0x7F8000007F800000#64 { start with pc := 0x1004#64, ds := some 0x1010#64 })))
    (fun r => r.inDelaySlot && r.resume == 0x1000#64) = true := by decide

/-- The architecture's entry, with the exceptions entered: EPC is the branch, BD is set, the vector follows BEV. -/
theorem test_entry : nextWith (exec (.cvtPwPs 1#5 0#5)
      (entering (enabling condV (put 0#5 .ps 0x7F8000007F800000#64 { start with pc := 0x1004#64, ds := some 0x1010#64 }))))
    (fun t => t.cp0.epc == 0x1000#64 && t.cp0.bd && t.cp0.exl && t.cp0.excCode == 15#5 && t.ds.isNone &&
      t.pc == 0xFFFFFFFFBFC00380#64) = true := by decide

/-- A word loaded at the pc is what the next step runs. -/
theorem test_step : nextWith (step (sums.withFetchWord 32 0x46C10098))
    (fun t => decide (getFpr t 2#5 = ⟨.ps, 0x40F0000040400000#64⟩ ∧ t.pc = 0xFFFFFFFFBFC00004#64)) = true := by decide

/-! Witnesses: a state and operands that meet the hypotheses of each obligation that has some -/

/-- A usable, executable state for every instruction with all-zero operands: the state after reset. -/
theorem test_usable (i : Instr) (h : i.wellFormed = true) : Usable i State.reset := ⟨rfl, h, rfl⟩

/-- Every register of the state after reset can be read in every format. -/
theorem test_readable (r : FReg) (f : Fmt) : Readable State.reset r f := by
  have h : getFpr State.reset r = ⟨.reset, 0#64⟩ := by simp [getFpr, State.reset]
  simp [Readable, h, tagAllows]

theorem test_executesOne (i : Instr) (f : Fmt) (fs : FReg) (h : i.wellFormed = true) : ExecutesOne i f fs State.reset :=
  ⟨test_usable i h, rfl, test_readable fs f, rfl⟩

theorem test_executesTwo (i : Instr) (f : Fmt) (fs ft : FReg) (h : i.wellFormed = true) :
    ExecutesTwo i f fs ft State.reset :=
  ⟨test_usable i h, rfl, test_readable fs f, test_readable ft f, rfl⟩

theorem test_executesBranch (i : Instr) (h : i.wellFormed = true) : ExecutesBranch i State.reset :=
  ⟨test_usable i h, rfl, rfl⟩

/-- No condition is enabled after reset, whatever an open function returns. -/
theorem test_noneEnabled (c : Conds) : meetsEnables State.reset.fcsr.enables c = false := by
  simp [meetsEnables, State.reset]

theorem test_fetches (w : Word) : Fetches (loadWord State.reset State.reset.pc w) w := by
  refine ⟨by simp [isFinal, loadWord, State.reset], by simp [loadWord, State.reset, wordAligned], ?_⟩
  show some (wordOfBytes false _ _ _ _) = some w
  simp only [wordOfBytes, Bool.false_eq_true, if_false, Option.some.injEq]
  apply BitVec.eq_of_getLsbD_eq
  intro i hi
  simp only [BitVec.getLsbD_append, BitVec.getLsbD_extractLsb']
  interval_cases i <;> simp

theorem test_witness_DecodeEncodeRoundTrip : Instr.wellFormed (.cabsNgtPs 6#3 31#5 31#5) = true := by decide

theorem test_witness_EncodeDecodeRoundTrip : ∃ i, decode 0x4551FFFF#32 = .instr i := ⟨_, rfl⟩

theorem test_witness_DecoderFollowsTheMaskTable : Mnemonic.fits .addrPs 0x46C10098#32 = true ∧ Mnemonic.fits .cabsFPs 0x46C00170#32 = true ∧
    decode 0x46C10098#32 = .instr (.addrPs 2#5 0#5 1#5) ∧ Instr.mnemonic (.addrPs 2#5 0#5 1#5) = .addrPs := by decide

theorem test_witness_BranchWordsWithNdSetAreRefused : ∀ w ∈ [0x45220000#32, 0x455FFFFF#32], (loadWord State.reset State.reset.pc w).cu1 = true ∧
    w.extractLsb' 26 6 = 0b010001#6 ∧ (w.extractLsb' 21 5 = 0b01001#5 ∨ w.extractLsb' 21 5 = 0b01010#5) ∧
    w.getLsbD 17 = true := by
  simp only [List.forall_mem_cons, List.not_mem_nil, false_imp_iff, implies_true, and_true]
  decide +kernel

theorem test_witness_MisalignedConditionCodesAreRefused : (∀ w ∈ [0x45240000#32, 0x453DFFFF#32], w.extractLsb' 21 5 = 0b01001#5 ∧ w.getLsbD 17 = false ∧ w.getLsbD 18 = true) ∧
    (∀ w ∈ [0x45440000#32, 0x45480000#32, 0x455DFFFF#32], w.extractLsb' 21 5 = 0b01010#5 ∧ w.getLsbD 17 = false ∧
      (w.getLsbD 18 = true ∨ w.getLsbD 19 = true)) ∧
    (∀ w ∈ [0x46C00170#32, 0x46DFFF7F#32], w.extractLsb' 21 5 = 0b10110#5 ∧ w.extractLsb' 4 4 = 0b0111#4 ∧
      w.getLsbD 8 = true) ∧
    (∀ w ∈ [0x46000070#32, 0x461FFF7F#32], w.extractLsb' 21 5 = 0b10000#5 ∧ w.extractLsb' 4 4 = 0b0111#4) ∧
    (∀ w ∈ [0x46200070#32, 0x463FFF7F#32], w.extractLsb' 21 5 = 0b10001#5 ∧ w.extractLsb' 4 4 = 0b0111#4) ∧
    (∀ w ∈ [0x45240000#32, 0x455DFFFF#32, 0x46C00170#32, 0x461FFF7F#32, 0x463FFF7F#32],
      w.extractLsb' 26 6 = 0b010001#6) := by
  simp only [List.forall_mem_cons, List.not_mem_nil, false_imp_iff, implies_true, and_true]
  decide +kernel

theorem test_witness_WordsOutsideTheTableAreRefused : (∀ w ∈ [0x00000000#32, 0xFFFFFFFF#32], w.extractLsb' 26 6 ≠ 0b010001#6) ∧
    (∀ w ∈ [0x46A00018#32, 0x44000000#32, 0x47FFFFFF#32], w.extractLsb' 26 6 = 0b010001#6 ∧
      w.extractLsb' 21 5 ∉ [0b10000#5, 0b10001#5, 0b10110#5, 0b10100#5, 0b01001#5, 0b01010#5]) ∧
    (∀ w ∈ [0x46800021#32, 0x4680001D#32], w.extractLsb' 21 5 = 0b10100#5 ∧ w.extractLsb' 0 6 ≠ 0b100110#6) ∧
    (∀ w ∈ [0x460000F0#32, 0x462000BF#32, 0x46C0003C#32], w.extractLsb' 4 2 = 0b11#2 ∧ w.extractLsb' 6 2 ≠ 0b01#2) ∧
    (∀ w ∈ [0x46000018#32, 0x4620001A#32, 0x46C00002#32], w.extractLsb' 4 2 ≠ 0b11#2 ∧
      w.extractLsb' 0 6 ∉ [0b011100#6, 0b011101#6, 0b011110#6, 0b011111#6] ∧
      (w.extractLsb' 21 5 = 0b10110#5 → w.extractLsb' 0 6 ∉ [0b011000#6, 0b011010#6, 0b100100#6])) ∧
    (∀ w ∈ [0x46810026#32, 0x46DF0024#32, 0x4601001D#32, 0x463F001E#32, 0x46C1001D#32],
      w.extractLsb' 16 5 ≠ 0#5 ∧ decode w = .reject .notInScope) := by
  simp only [List.forall_mem_cons, List.not_mem_nil, false_imp_iff, implies_true, and_true]
  refine ⟨?_, ?_, ?_, ?_, ?_, ?_⟩ <;> decide +kernel

theorem test_witness_TargetOffsetRange : decode 0x45290002#32 = .instr (.bc1any2t 2#3 2#16) ∧ decode 0x45388000#32 = .instr (.bc1any2f 6#3 0x8000#16) ∧
    decode 0x45500001#32 = .instr (.bc1any4f 4#3 1#16) ∧ decode 0x4551FFFF#32 = .instr (.bc1any4t 4#3 0xFFFF#16) := by decide

theorem test_witness_StepRunsDecodedInstruction : Fetches (loadWord State.reset State.reset.pc 0x46C10098#32) 0x46C10098#32 ∧
    decode 0x46C10098#32 = .instr (.addrPs 2#5 0#5 1#5) := ⟨test_fetches _, by decide +kernel⟩

theorem test_witness_StepOutcomeOnRejectedWords : Fetches (loadWord State.reset State.reset.pc 0x46C1003F#32) 0x46C1003F#32 ∧
    decode 0x46C1003F#32 = .reject .notInScope := ⟨test_fetches _, by decide +kernel⟩

theorem test_witness_StepBeforeTheFetch : (let s := { State.reset with halt := [State.reset.pc] }
    s.pc ∈ s.halt ∧ s.ds = none) ∧
    (let s := { State.reset with pc := 0x1002#64 }
    s.pc ∉ s.halt ∧ s.pc.extractLsb' 0 2 ≠ 0#2) ∧
    (let s := { State.reset with halt := [State.reset.pc], ds := some 0#64 }
    s.ds ≠ none ∧ s.pc.extractLsb' 0 2 = 0#2 ∧ fetchWord s s.pc = none) := by decide

theorem test_witness_LoadedWordIsFetched : wordAligned 0xFFFFFFFFFFFFFFFC#64 = true ∧ wordAligned 0#64 = true := by decide

theorem test_reset_inv : StateInv State.reset := by
  constructor <;> simp [State.reset, Memory.wf, inSpace, wrapAddr, Config.default, wordAligned]

/-- A state that meets the invariant and takes a step to a next state. -/
theorem test_witness_StepKeepsStateInv : StateInv (loadWord State.reset State.reset.pc 0x46C10098#32) ∧
    isNext (step (loadWord State.reset State.reset.pc 0x46C10098#32)) = true := by
  refine ⟨⟨loadWord_wf test_reset_inv.text_form _ _, ?_, ?_, ?_, ?_, ?_, ?_⟩, by decide⟩ <;>
    simp [loadWord, State.reset, inSpace, wrapAddr, Config.default, wordAligned]

/-- A step that sets a Flag and keeps another; StepKeepsFixedState has the same hypothesis. -/
theorem test_witness_FlagsAreSticky : nextWith (step
      ((put 0#5 .pw 0x0100000100000000#64 { start with fcsr := { start.fcsr with flags := condV } }).withFetchWord 32 0x46800066))
    (fun t => t.fcsr.flags.v && t.fcsr.flags.i) = true := by decide

theorem test_witness_ConditionCodeFrame : isNext (exec (.cabsLtPs 2#3 0#5 1#5) sums) = true ∧ 4#3 ∉ ccWritten (.cabsLtPs 2#3 0#5 1#5) ∧
    1#3 ∉ ccWritten (.cabsLtPs 2#3 0#5 1#5) := by decide

theorem test_witness_RegisterFrame : isNext (exec (.addrPs 2#5 0#5 1#5) sums) = true ∧ destReg (.addrPs 2#5 0#5 1#5) ≠ some 0#5 ∧
    sums.cfg.unpredictable = .refuse := by decide

theorem test_witness_PcAndDelaySlotAdvance : start.cfg.traps = .terminal ∧ isNext (exec (.cvtPsPw 1#5 0#5) start) = true ∧
    isNext (exec (.cvtPsPw 1#5 0#5) { start with ds := some 0x1000#64 }) = true ∧
    isNext (exec (.bc1any4t 0#3 0#16) start) = true := by decide

theorem test_witness_DelaySlotThenTarget : nextWith (exec (.bc1any2t 2#3 2#16) start) (fun t => isNext (exec (.cvtPsPw 1#5 0#5) t)) = true ∧
    nextWith (exec (.bc1any2f 6#3 2#16) start) (fun t => isNext (exec (.cabsFPs 6#3 0#5 0#5) t)) = true ∧
    nextWith (exec (.bc1any4t 4#3 2#16) start) (fun t => isNext (exec (.mulrPs 1#5 0#5 0#5) t)) = true ∧
    nextWith (exec (.bc1any4f 0#3 2#16) start) (fun t => isNext (exec (.addrPs 1#5 0#5 0#5) t)) = true := by decide

theorem test_witness_AddrPsResult : ExecutesTwo (.addrPs 2#5 0#5 1#5) .ps 0#5 1#5 State.reset ∧
    ∀ c, meetsEnables State.reset.fcsr.enables c = false := ⟨test_executesTwo _ _ _ _ rfl, test_noneEnabled⟩

theorem test_witness_MulrPsResult : ExecutesTwo (.mulrPs 2#5 0#5 1#5) .ps 0#5 1#5 State.reset ∧
    ∀ c, meetsEnables State.reset.fcsr.enables c = false := ⟨test_executesTwo _ _ _ _ rfl, test_noneEnabled⟩

theorem test_witness_BranchAnyTwoResult : ExecutesBranch (.bc1any2f 6#3 0x8000#16) State.reset ∧
    ExecutesBranch (.bc1any2t 0#3 0x7FFF#16) State.reset := ⟨test_executesBranch _ rfl, test_executesBranch _ rfl⟩

theorem test_witness_BranchAnyFourResult : ExecutesBranch (.bc1any4f 4#3 0x8000#16) State.reset ∧
    ExecutesBranch (.bc1any4t 0#3 0x7FFF#16) State.reset := ⟨test_executesBranch _ rfl, test_executesBranch _ rfl⟩

theorem test_witness_CompareSingleResult : ∀ c : Cond, ExecutesTwo (cabsInstr .s c 7#3 31#5 0#5) .s 31#5 0#5 State.reset ∧
    State.reset.fcsr.enables.v = false := fun c =>
  ⟨test_executesTwo _ _ _ _ (by cases c <;> rfl), rfl⟩

theorem test_witness_CompareDoubleResult : ∀ c : Cond, ExecutesTwo (cabsInstr .d c 7#3 31#5 0#5) .d 31#5 0#5 State.reset ∧
    State.reset.fcsr.enables.v = false := fun c =>
  ⟨test_executesTwo _ _ _ _ (by cases c <;> rfl), rfl⟩

theorem test_witness_ComparePairedResult : ∀ c : Cond, ExecutesTwo (cabsInstr .ps c 6#3 31#5 0#5) .ps 31#5 0#5 State.reset ∧
    State.reset.fcsr.enables.v = false := fun c =>
  ⟨test_executesTwo _ _ _ _ (by cases c <;> rfl), rfl⟩

theorem test_witness_CvtPsPwResult : ExecutesOne (.cvtPsPw 1#5 31#5) .pw 31#5 State.reset := test_executesOne _ _ _ rfl

theorem test_witness_RecipOneResult : ExecutesOne (.recip1S 1#5 31#5) .s 31#5 State.reset ∧
    ExecutesOne (.recip1D 1#5 31#5) .d 31#5 State.reset ∧ ExecutesOne (.recip1Ps 1#5 31#5) .ps 31#5 State.reset ∧
    ∀ c, meetsEnables State.reset.fcsr.enables c = false := 
  ⟨test_executesOne _ _ _ rfl, test_executesOne _ _ _ rfl, test_executesOne _ _ _ rfl, test_noneEnabled⟩

theorem test_witness_RsqrtOneResult : ExecutesOne (.rsqrt1S 1#5 31#5) .s 31#5 State.reset ∧
    ExecutesOne (.rsqrt1D 1#5 31#5) .d 31#5 State.reset ∧ ExecutesOne (.rsqrt1Ps 1#5 31#5) .ps 31#5 State.reset ∧
    ∀ c, meetsEnables State.reset.fcsr.enables c = false := 
  ⟨test_executesOne _ _ _ rfl, test_executesOne _ _ _ rfl, test_executesOne _ _ _ rfl, test_noneEnabled⟩

theorem test_witness_RecipTwoResult : ExecutesTwo (.recip2S 1#5 31#5 0#5) .s 31#5 0#5 State.reset ∧
    ExecutesTwo (.recip2D 1#5 31#5 0#5) .d 31#5 0#5 State.reset ∧
    ExecutesTwo (.recip2Ps 1#5 31#5 0#5) .ps 31#5 0#5 State.reset ∧ ∀ c, meetsEnables State.reset.fcsr.enables c = false := 
  ⟨test_executesTwo _ _ _ _ rfl, test_executesTwo _ _ _ _ rfl, test_executesTwo _ _ _ _ rfl, test_noneEnabled⟩

theorem test_witness_RsqrtTwoResult : ExecutesTwo (.rsqrt2S 1#5 31#5 0#5) .s 31#5 0#5 State.reset ∧
    ExecutesTwo (.rsqrt2D 1#5 31#5 0#5) .d 31#5 0#5 State.reset ∧
    ExecutesTwo (.rsqrt2Ps 1#5 31#5 0#5) .ps 31#5 0#5 State.reset ∧ ∀ c, meetsEnables State.reset.fcsr.enables c = false := 
  ⟨test_executesTwo _ _ _ _ rfl, test_executesTwo _ _ _ _ rfl, test_executesTwo _ _ _ _ rfl, test_noneEnabled⟩

/-- Every register holds a signaling NaN in both halves, in the S reading and in the D reading, and V is enabled. -/
def nans : State := enabling condV { start with fpr := Vector.replicate 32 ⟨.reset, 0x7FFFFFFF7FFFFFFF#64⟩ }

/-- Inexact is enabled and every register holds two words of 25 significant bits. -/
def words : State := enabling condI { start with fpr := Vector.replicate 32 ⟨.reset, 0x0100000101000001#64⟩ }

theorem test_nans_readable (r : FReg) (f : Fmt) : Readable nans r f ∧ Readable words r f := by
  have h : getFpr nans r = ⟨.reset, 0x7FFFFFFF7FFFFFFF#64⟩ := by simp [getFpr, nans, enabling]
  have h' : getFpr words r = ⟨.reset, 0x0100000101000001#64⟩ := by simp [getFpr, words, enabling]
  simp [Readable, h, h', tagAllows]

theorem test_nans_two (i : Instr) (f : Fmt) (fs ft : FReg) (h : i.wellFormed = true) : ExecutesTwo i f fs ft nans :=
  ⟨⟨rfl, h, rfl⟩, rfl, (test_nans_readable fs f).1, (test_nans_readable ft f).1, rfl⟩

theorem test_nans_one (i : Instr) (f : Fmt) (fs : FReg) (h : i.wellFormed = true) : ExecutesOne i f fs nans :=
  ⟨⟨rfl, h, rfl⟩, rfl, (test_nans_readable fs f).1, rfl⟩

theorem test_witness_ReductionAndConversionTraps :
    ExecutesTwo (.addrPs 2#5 0#5 1#5) .ps 0#5 1#5 nans ∧ ExecutesTwo (.mulrPs 2#5 0#5 1#5) .ps 0#5 1#5 nans ∧
    ExecutesOne (.cvtPsPw 2#5 0#5) .pw 0#5 words ∧ ExecutesOne (.cvtPwPs 2#5 0#5) .ps 0#5 nans ∧
    meetsEnables nans.fcsr.enables (addS nans.cfg nans.fcsr 0x7FFFFFFF#32 0x7FFFFFFF#32).2 = true ∧
    meetsEnables nans.fcsr.enables (mulS nans.cfg nans.fcsr 0x7FFFFFFF#32 0x7FFFFFFF#32).2 = true ∧
    meetsEnables words.fcsr.enables (convertWS words.cfg words.fcsr 0x01000001#32).2 = true ∧
    meetsEnables nans.fcsr.enables (convertSW nans.fcsr 0x7FFFFFFF#32).2 = true :=
  ⟨test_nans_two _ _ _ _ rfl, test_nans_two _ _ _ _ rfl, ⟨⟨rfl, rfl, rfl⟩, rfl, (test_nans_readable _ _).2, rfl⟩,
    test_nans_one _ _ _ rfl, by decide, by decide, by decide, by decide⟩

/-- The clauses of R205 at the ends of the range: 2^31 - 128 and -2^31 are words, 2^31 and -(2^31 + 256) are not. -/
theorem test_witness_CvtPwPsResult : ExecutesOne (.cvtPwPs 1#5 31#5) .ps 31#5 State.reset ∧
    ExecutesOne (.cvtPwPs 1#5 31#5) .ps 31#5 nans ∧ nans.fcsr.enables.v = true ∧
    InvalidAsWord nans.fcsr.rm 0x7FFFFFFF#32 ∧ InvalidAsWord .rn 0x4F000000#32 ∧ InvalidAsWord .rz 0xCF000001#32 ∧
    ¬ InvalidAsWord .rp 0x4EFFFFFF#32 ∧ ¬ InvalidAsWord .rm 0xCF000000#32 :=
  ⟨test_executesOne _ _ _ rfl, test_nans_one _ _ _ rfl, rfl, .inr (.inl rfl), by unfold InvalidAsWord; decide +kernel,
    by unfold InvalidAsWord; decide +kernel, by unfold InvalidAsWord; decide +kernel, by unfold InvalidAsWord; decide +kernel⟩

theorem test_witness_CompareTraps : nans.fcsr.enables.v = true ∧
    (∀ c : Cond, ExecutesTwo (cabsInstr .s c 7#3 0#5 1#5) .s 0#5 1#5 nans ∧
      ExecutesTwo (cabsInstr .d c 7#3 0#5 1#5) .d 0#5 1#5 nans ∧ ExecutesTwo (cabsInstr .ps c 6#3 0#5 1#5) .ps 0#5 1#5 nans) ∧
    (∀ c ∈ [Cond.f, Cond.ngt], (cabs1 false single (Cond.bits c) 0x7FFFFFFF#32 0x7FFFFFFF#32).2 = true ∧
      (cabs1 false double (Cond.bits c) 0x7FFFFFFF7FFFFFFF#64 0x7FFFFFFF7FFFFFFF#64).2 = true) :=
  ⟨rfl, fun c => ⟨test_nans_two _ _ _ _ (by cases c <;> rfl), test_nans_two _ _ _ _ (by cases c <;> rfl),
    test_nans_two _ _ _ _ (by cases c <;> rfl)⟩, by decide⟩

theorem test_witness_RecipAndRsqrtTraps (f : InstrFmt) :
    ExecutesOne (recip1Instr f 2#5 0#5) (operandFmt f) 0#5 nans ∧
    ExecutesTwo (recip2Instr f 2#5 0#5 1#5) (operandFmt f) 0#5 1#5 nans ∧
    meetsEnables nans.fcsr.enables
      (liftOne (recip1S nans.cfg nans.fcsr) (recip1D nans.cfg nans.fcsr) f (operandBits nans 0#5 (operandFmt f))).2 = true ∧
    meetsEnables nans.fcsr.enables
      (liftTwo (rsqrt2S nans.cfg nans.fcsr) (rsqrt2D nans.cfg nans.fcsr) f (operandBits nans 0#5 (operandFmt f))
        (operandBits nans 1#5 (operandFmt f))).2 = true :=
  ⟨test_nans_one _ _ _ (by cases f <;> rfl), test_nans_two _ _ _ _ (by cases f <;> rfl), by cases f <;> decide,
    by cases f <;> decide⟩

theorem test_witness_CoprocessorUnusableComesFirst : { State.reset with cu1 := false }.cu1 = false ∧
    BitVec.extractLsb' 26 6 0x46C1003F#32 = 0b010001#6 := by decide

theorem test_witness_ReservedInstructionIsRaised : Mnemonic.bc1any4t ∈ { State.reset with cfg := { Config.default with lacking := [.recip1Ps, .bc1any4t] } }.cfg.lacking ∧
    Instr.wellFormed (.bc1any4t 4#3 0#16) = true := by decide

/-- ADDR.PS f0, f0, f0 and BC1ANY2F 0, 0 are unimplemented on the state after reset. -/
def hard : State := { State.reset with cfg := { Config.default with unimplemented :=
  [⟨encode (.addrPs 0#5 0#5 0#5), [0#64, 0#64], State.reset.fcsr⟩, ⟨encode (.bc1any2f 0#3 0#16), [], State.reset.fcsr⟩] } }

theorem test_witness_UnimplementedOperationTraps :
    (Usable (.addrPs 0#5 0#5 0#5) hard ∧ hard.fp32regs = true ∧ Readable hard 0#5 .ps ∧
      unimplementedOp hard (.addrPs 0#5 0#5 0#5) [0#64, 0#64] = true) ∧
    (Usable (.bc1any2f 0#3 0#16) hard ∧ hard.ds = none ∧ unimplementedOp hard (.bc1any2f 0#3 0#16) [] = true) :=
  ⟨⟨⟨rfl, rfl, rfl⟩, rfl, rfl, by decide⟩, ⟨⟨rfl, rfl, rfl⟩, rfl, by decide⟩⟩

/-- A state in a delay slot, in the 16 FP registers mode, with a register nothing can read. -/
def narrow : State := put 5#5 .none 0#64 { State.reset with ds := some 0x1000#64, fp32regs := false }

theorem test_witness_BranchInDelaySlotIsRefused : Usable (.bc1any4t 4#3 1#16) narrow ∧
    isBranch (.bc1any4t 4#3 1#16) = true ∧ narrow.ds.isSome = true := ⟨⟨rfl, rfl, rfl⟩, rfl, rfl⟩

theorem test_witness_SixteenRegisterModeIsRefused : Usable (.recip1S 0#5 1#5) narrow ∧
    isBranch (.recip1S 0#5 1#5) = false ∧ narrow.fp32regs = false ∧ narrow.cfg.unpredictable = .refuse ∧
    sourceFmt (.recip1S 0#5 1#5) = .s ∧ sourceFmt (.recip1D 0#5 1#5) = .d := ⟨⟨rfl, rfl, rfl⟩, rfl, rfl, rfl, rfl, rfl⟩

theorem test_witness_OperandFormatIsRefused : Usable (.recip2D 0#5 1#5 5#5) (put 5#5 .none 0#64 State.reset) ∧
    5#5 ∈ sourceRegs (.recip2D 0#5 1#5 5#5) ∧
    ¬ Readable (put 5#5 .none 0#64 State.reset) 5#5 (sourceFmt (.recip2D 0#5 1#5 5#5)) :=
  ⟨⟨rfl, rfl, rfl⟩, by decide, by simp [Readable, put, getFpr, setFpr, tagAllows]⟩

/-- Each of the three refusals occurs. -/
theorem test_witness_OnlyTheseRefusals :
    refusedAs (exec (.bc1any2f 0#3 0#16) narrow) .branchInDelaySlot = true ∧
    refusedAs (exec (.recip1S 0#5 1#5) narrow) .sixteenRegisterMode = true ∧
    refusedAs (exec (.recip2D 0#5 1#5 5#5) (put 5#5 .none 0#64 State.reset)) .operandFormat = true := by decide

/-- Results are drawn, and exceptions entered. -/
def drawing : State := entering (put 5#5 .none 0#64 { State.reset with cfg := { Config.default with unpredictable := .draw } })

theorem test_witness_DrawnResultsNeverRefuse : Usable (.recip2D 0#5 1#5 5#5) drawing ∧ drawing.fp32regs = true ∧
    drawing.cfg.unpredictable = .draw ∧ drawing.cfg.traps = .architectural := ⟨⟨rfl, rfl, rfl⟩, rfl, rfl, rfl⟩

/-- A drawn result has the format of the page, and the operand register it was drawn for no readable one. -/
theorem test_drawn_result : nextWith (exec (.recip2D 0#5 1#5 5#5) drawing)
    (fun t => (getFpr t 0#5).tag == .d && (getFpr t 1#5).tag == .none && (getFpr t 5#5).tag == .none) = true := by
  decide

/-- One step for each exception that a step can record. -/
theorem test_witness_FaultRecordIsPrecise :
    faultWith (step { State.reset with pc := 0x1002#64 }) (fun r => r.exception == .addressErrorFetch 0x1002#64) = true ∧
    faultWith (step (State.withFetchWord { State.reset with cu1 := false } 32 0x46C1003F))
      (fun r => r.exception == .coprocessorUnusable 1#2) = true ∧
    faultWith (step (nans.withFetchWord 32 0x46C10098)) (fun r => r.exception == .floatingPoint (causeOf condV)) = true := by decide

theorem test_witness_RaisedExceptionIsRecordedOrEntered : State.reset.cfg.traps = .terminal ∧ drawing.cfg.traps = .architectural ∧ drawing.cp0.exl = false ∧
    { drawing with cp0 := { drawing.cp0 with exl := true } }.cp0.exl = true := ⟨rfl, rfl, rfl, rfl⟩

theorem test_witness_AbsoluteCompareIsUnsigned : isNaN single 0xFF800000#32 = false ∧ isNaN single 0x80000001#32 = false ∧
    isNaN double 0xFFF0000000000000#64 = false ∧ isNaN double 1#64 = false := by decide

theorem test_witness_RoundingModeChoice : 0 < 2 ∧ 3 % 2 = 1 ∧ 3 / 2 % 2 = 1 := by decide

/-- One pair of operands for each clause, among them the infinities and zeros at which clauses meet. -/
theorem test_witness_AddAndMulResults :
    isSNaN false single 0x7FFFFFFF#32 = true ∧ isQNaN false single 0x7FBFFFFF#32 = true ∧
    (isInf single 0x7F800000#32 = true ∧ isInf single 0xFF800000#32 = true ∧
      signBit 0x7F800000#32 ≠ signBit 0xFF800000#32) ∧
    (isZero single 0x80000000#32 = true ∧ isNaN single 0x80000000#32 = false ∧ isInf single 0x80000000#32 = false) ∧
    (isInf single 0x00000001#32 = false ∧ isZero single 0x00000001#32 = false ∧ isNaN single 0x00000001#32 = false) ∧
    start.cfg.numerics = .reference := by decide

theorem test_witness_AddAndMulResults_values :
    fpValue single 0x3FC00000#32 + fpValue single 0xBFC00000#32 = 0 ∧
    fpValue single 0x3FC00000#32 + fpValue single 0x3FC00000#32 ≠ 0 ∧
    (2 : ℚ) ^ (-126 : ℤ) ≤ |fpValue single 0x3FC00000#32 * fpValue single 0x3FC00000#32| := by
  have h : fpValue single 0x3FC00000#32 = 3 / 2 := by decide +kernel
  have h' : fpValue single 0xBFC00000#32 = -(3 / 2) := by decide +kernel
  rw [h, h']
  norm_num

/-- The default NaN of the configuration, where it is a quiet NaN, and else R109's. -/
theorem test_qnanDefault :
    addS { start.cfg with qnanDefaultS := 0xFF800001#32 } start.fcsr 0x7F800000#32 0xFF800000#32 = (0xFF800001#32, condV) ∧
    addS { start.cfg with nan2008 := true } start.fcsr 0x7F800000#32 0xFF800000#32 = (0x7FC00000#32, condV) ∧
    qnanDefaultD { start.cfg with nan2008 := true } = 0x7FF8000000000000#64 := by decide

/-- A drawn set of conditions never holds one that the page of the instruction does not list. -/
theorem test_drawn_conditions (s : State) : (drawnConds (.addrPs 2#5 0#5 1#5) s).z = false ∧
    (drawnConds (.cabsFS 0#3 0#5 1#5) s).i = false := by simp [drawnConds, commonConds, listedConds, condV]

theorem test_witness_RepresentableValuesRoundToThemselves :
    (∀ x ∈ [0x00000001#32, 0x807FFFFF#32, 0x00800000#32, 0xFF7FFFFF#32],
      isNaN single x = false ∧ isInf single x = false ∧ isZero single x = false) ∧
    (∀ x ∈ [0x0000000000000001#64, 0x800FFFFFFFFFFFFF#64, 0xFFEFFFFFFFFFFFFF#64],
      isNaN double x = false ∧ isInf double x = false ∧ isZero double x = false) := by
  simp only [List.forall_mem_cons, List.not_mem_nil, false_imp_iff, implies_true, and_true]
  decide

theorem test_witness_AdditionNeverUnderflowsUntrapped : start.cfg.numerics = .reference ∧ start.fcsr.enables.u = false ∧
    isDenorm single (addS start.cfg start.fcsr 0x00000001#32 0x00000001#32).1 = true := by decide

theorem test_witness_ConditionsListedByPage : start.cfg.unpredictable = .refuse ∧ start.cfg.traps = .terminal ∧
    isNext (exec (.cvtPsPw 1#5 0#5) start) = true ∧
    faultWith (exec (.addrPs 2#5 0#5 1#5) nans) (fun r => r.exception == .floatingPoint (causeOf condV)) = true := by decide +kernel

theorem test_witness_FixedCasesOfTheSeeds : isZero single 0x80000000#32 = true ∧ isInf single 0xFF800000#32 = true ∧
    isZero double 0x8000000000000000#64 = true ∧ isInf double 0xFFF0000000000000#64 = true := by decide

theorem test_witness_ReferenceReciprocalAccuracy : start.cfg.numerics = .reference ∧ isNormal single 0x40400000#32 = true ∧
    isNormal double 0x4008000000000000#64 = true ∧ inNormalRange single (1 / fpValue single 0x40400000#32) ∧
    inNormalRange double (1 / fpValue double 0x4008000000000000#64) := by
  have h : fpValue single 0x40400000#32 = 3 := by decide +kernel
  have h' : fpValue double 0x4008000000000000#64 = 3 := by decide +kernel
  refine ⟨by decide, by decide, by decide, ?_, ?_⟩
  · rw [h]
    norm_num [inNormalRange, minExp, bias, single, abs_of_pos]
  · rw [h']
    norm_num [inNormalRange, minExp, bias, double, abs_of_pos]
    exact ⟨inv_le_of_inv_le₀ (by norm_num) (by norm_num; exact le_trans (by norm_num : (3 : ℚ) ≤ 2 ^ 2) (pow_le_pow_right₀ (by norm_num) (by norm_num))),
      le_trans (by norm_num : (1 / 3 : ℚ) ≤ 9007199254740991 / 4503599627370496 * 1)
        (mul_le_mul_of_nonneg_left (one_le_pow₀ (by norm_num)) (by norm_num))⟩

theorem test_witness_ConversionResults : (convertSW start.fcsr 0x4F000000#32).2.v = true ∧
    (convertSW start.fcsr 0x4EFFFFFF#32).2.v = false ∧ (convertSW start.fcsr 0xCF000000#32).2.v = false ∧
    0x80000000#32 ≠ 0#32 := by decide

/-- The two states differ in the upper half of an S register and in the counter of draws, and both take a step. -/
theorem test_witness_FreeHalvesAreNeverRead :
    let s := (put 0#5 .s 0x3F800000#64 start).withFetchWord 32 0x46000070
    let s' := { (put 0#5 .s 0xFFFFFFFF3F800000#64 start).withFetchWord 32 0x46000070 with draws := 7 }
    s.cfg.unpredictable = .refuse ∧ SameButFree s s' ∧ s ≠ s' ∧ isNext (step s) = true := by
  refine ⟨rfl, ⟨fun r => ?_, rfl⟩, by decide, by decide⟩
  unfold sameMeaning
  revert r
  decide +kernel

end Sys2Proof.Tests
end

section
/-! Which outcomes a well-formed instruction can have, once for all 68: `exec_answers`. The obligations on refusals (R9,
R130, log 16) are read off from it. -/

namespace Sys2Proof.Machine

/-! The outcomes of a well-formed instruction -/

/-- The refusals of steps 6, 7 and 8 of R130, each with what leads to it. -/
inductive Refuses (i : Instr) (s : State) : Refusal → Prop where
  | branchInDelaySlot (hb : isBranch i = true) (hd : s.ds.isSome = true) : Refuses i s .branchInDelaySlot
  | sixteenRegisterMode (hb : isBranch i = false) (hm : s.fp32regs = false) : Refuses i s .sixteenRegisterMode
  | operandFormat (hb : isBranch i = false) (hm : s.fp32regs = true) (hu : s.cfg.unpredictable = .refuse)
      (hr : ∃ r ∈ sourceRegs i, ¬ Readable s r (sourceFmt i)) : Refuses i s .operandFormat

/-- The outcomes open to instruction i in state s: a next state, an exception taken under the configuration of s, or one
of the refusals of R130. -/
inductive Answers (i : Instr) (s : State) : Out → Prop where
  | next (t : State) : Answers i s (.next t)
  | raised (e : Exception) (u : State) (hc : u.cfg = s.cfg) : Answers i s (raise e u)
  | refused {why : Refusal} (h : Refuses i s why) : Answers i s (.refused why)

theorem refuses_of_answers {i : Instr} {s : State} {o : Out} {why : Refusal} (ha : Answers i s o)
    (ho : o = .refused why) : Refuses i s why := by
  cases ha with
  | next t => cases ho
  | raised e u hc => exact absurd ho raise_not_refused
  | refused h =>
    cases ho
    exact h

/-- Only under the spec's own treatment of exceptions does an instruction end the run by one. -/
theorem terminal_of_answers {i : Instr} {s : State} {o : Out} {f : Fault} (ha : Answers i s o) (ho : o = .fault f) :
    s.cfg.traps = .terminal := by
  cases ha with
  | next t => cases ho
  | raised e u hc => exact hc ▸ (raise_fault ho).1
  | refused h => cases ho

/-! Each shared operation keeps to these outcomes -/

theorem signal_answers (i : Instr) (c : Cause) (write : State → State) (s : State) :
    Answers i s (signal c write s) := by
  unfold signal
  split
  · exact .raised _ _ (setCause_cfg c s)
  · exact .next _

theorem countDraw_answers {i : Instr} {s : State} {o : Out} (h : Answers i s o) : Answers i s (countDraw o) := by
  cases h with
  | next t => exact .next _
  | raised e u hc =>
    cases ho : raise e u with
    | next t => exact .next _
    | fault f =>
      have hf : Answers i s (.fault f) := ho ▸ .raised e u hc
      exact hf
    | refused r => exact absurd ho raise_not_refused
  | refused h => exact .refused h

theorem unpredictableResult_answers {why : Refusal} {i : Instr} {s : State} (lost : List FReg) (write : State → State)
    (h : s.cfg.unpredictable = .refuse → Refuses i s why) : Answers i s (unpredictableResult why i lost write s) := by
  unfold unpredictableResult
  split
  · next hu => exact .refused (h hu)
  · exact countDraw_answers (signal_answers _ _ _ _)

theorem sixteenMode_answers {i : Instr} {s : State} (f : Fmt) (write : State → State)
    (h : Refuses i s .sixteenRegisterMode) : Answers i s (sixteenMode i f write s) := by
  unfold sixteenMode
  split
  · exact unpredictableResult_answers _ _ fun _ => h
  · exact unpredictableResult_answers _ _ fun _ => h
  · exact .refused h

theorem guarded_answers {i : Instr} {s : State} {body : Out} (hwf : i.wellFormed = true) (h : Answers i s body) :
    Answers i s (guarded i s body) := by
  unfold guarded
  split
  · exact .raised _ _ rfl
  · split
    · next hill => simp [hwf] at hill
    · split
      · exact .raised _ _ rfl
      · exact h

theorem unlessUnimplemented_answers {i : Instr} {s : State} {body : Out} (ops : List (BitVec 64))
    (h : Answers i s body) : Answers i s (unlessUnimplemented i ops s body) := by
  unfold unlessUnimplemented
  split
  · exact .raised _ _ (setCause_cfg causeE s)
  · exact h

theorem valueFpr_none {s : State} {r : FReg} {f : Fmt} (h : valueFpr s r f = none) : ¬ Readable s r f := fun hr => by
  simp [valueFpr_readable hr] at h

theorem withNone_answers {i : Instr} {s : State} {body : Out} (hwf : i.wellFormed = true) (hb : isBranch i = true)
    (h : Answers i s body) : Answers i s (withNone i s body) := by
  refine guarded_answers hwf ?_
  split
  · next hd => exact .refused (.branchInDelaySlot hb hd)
  · exact unlessUnimplemented_answers _ h

theorem withOne_answers {i : Instr} {s : State} {fs : FReg} {free : State → State} {body : BitVec 64 → Out}
    (hwf : i.wellFormed = true) (hb : isBranch i = false) (hr : sourceRegs i = [fs]) (h : ∀ a, Answers i s (body a)) :
    Answers i s (withOne i (sourceFmt i) fs free s body) := by
  refine guarded_answers hwf ?_
  split
  · next hm => exact sixteenMode_answers _ _ (.sixteenRegisterMode hb (by simpa using hm))
  · next hm =>
    split
    · exact unlessUnimplemented_answers _ (h _)
    · next hv =>
      exact unpredictableResult_answers _ _ fun hu =>
        .operandFormat hb (by simpa using hm) hu ⟨fs, by simp [hr], valueFpr_none hv⟩

theorem withTwo_answers {i : Instr} {s : State} {fs ft : FReg} {free : State → State}
    {body : BitVec 64 → BitVec 64 → Out} (hwf : i.wellFormed = true) (hb : isBranch i = false)
    (hr : sourceRegs i = [fs, ft]) (h : ∀ a b, Answers i s (body a b)) :
    Answers i s (withTwo i (sourceFmt i) fs ft free s body) := by
  refine guarded_answers hwf ?_
  split
  · next hm => exact sixteenMode_answers _ _ (.sixteenRegisterMode hb (by simpa using hm))
  · next hm =>
    split
    · exact unlessUnimplemented_answers _ (h _ _)
    · next hv =>
      refine unpredictableResult_answers _ _ fun hu => .operandFormat hb (by simpa using hm) hu ?_
      by_cases hfs : Readable s fs (sourceFmt i)
      · refine ⟨ft, by simp [hr], fun hft => ?_⟩
        exact hv _ _ (valueFpr_readable hfs) (valueFpr_readable hft)
      · exact ⟨fs, by simp [hr], hfs⟩

/-- Every outcome a well-formed instruction can have, in every configuration. -/
theorem exec_answers {i : Instr} (hwf : i.wellFormed = true) (s : State) : Answers i s (exec i s) := by
  rcases exec_shape i with hs | hs | hs | hs | hs
  · obtain ⟨hb, -, -, -, -, _, hx⟩ := hs
    exact hx s ▸ withNone_answers hwf hb (.next _)
  · obtain ⟨hb, -, -, _, _, _, _, -, hr, hx⟩ := hs
    exact hx s ▸ withOne_answers hwf hb hr fun _ => signal_answers _ _ _ _
  · obtain ⟨hb, -, -, _, _, _, _, _, -, hr, hx⟩ := hs
    exact hx s ▸ withTwo_answers hwf hb hr fun _ _ => signal_answers _ _ _ _
  · obtain ⟨hb, -, -, _, _, _, _, -, hr, hx⟩ := hs
    exact hx s ▸ withTwo_answers hwf hb hr fun _ _ => signal_answers _ _ _ _
  · obtain ⟨hb, -, -, hf, _, _, _, _, _, -, hr, hx⟩ := hs
    exact hx s ▸ hf ▸ withTwo_answers hwf hb hr fun _ _ => signal_answers _ _ _ _

/-! The obligations -/

/-- Settles O43: the refusals among the outcomes of `exec_answers`. -/
theorem onlyTheseRefusals : Obligations.OnlyTheseRefusals := by
  intro i s why hwf h
  cases refuses_of_answers (exec_answers hwf s) h with
  | branchInDelaySlot hb hd => exact .inl ⟨rfl, hb, hd⟩
  | sixteenRegisterMode hb hm => exact .inr (.inl ⟨rfl, hb, hm⟩)
  | operandFormat hb hm hu hr => exact .inr (.inr ⟨rfl, hb, hm, hu, hr⟩)

theorem not_refuses_of_draw {i : Instr} {s : State} (hb : isBranch i = false) (hm : s.fp32regs = true)
    (hu : s.cfg.unpredictable = .draw) (why : Refusal) : ¬ Refuses i s why := by
  rintro (⟨hb', -⟩ | ⟨-, hm'⟩ | ⟨-, -, hu', -⟩)
  · simp [hb] at hb'
  · simp [hm] at hm'
  · simp [hu] at hu'

/-- Settles O44: the hypotheses exclude each refusal of `Refuses`, and a fault needs terminal exceptions. -/
theorem drawnResultsNeverRefuse : Obligations.DrawnResultsNeverRefuse := by
  intro i s ⟨_, hwf, _⟩ hb hm hu
  have hans := exec_answers hwf s
  have hno : ∀ why, exec i s ≠ .refused why := fun why h =>
    not_refuses_of_draw hb hm hu why (refuses_of_answers hans h)
  refine ⟨hno, fun htraps => ?_⟩
  cases ho : exec i s with
  | next t => exact ⟨t, rfl⟩
  | fault f => simp [terminal_of_answers hans ho] at htraps
  | refused why => exact absurd ho (hno why)

end Sys2Proof.Machine
end

section
/-! The refusals of steps 7 and 8 of R130: an instruction that reads registers begins with the checks on them
(`ReadsRegisters`), and each check that fails is refused under the spec's own treatment. -/

namespace Sys2Proof.Machine

theorem unpredictableResult_refuses {why : Refusal} {i : Instr} {lost : List FReg} {write : State → State} {s : State}
    (h : s.cfg.unpredictable = .refuse) : unpredictableResult why i lost write s = .refused why := by
  simp [unpredictableResult, h]

theorem sixteenMode_refuses {i : Instr} {f : Fmt} {write : State → State} {s : State}
    (h : s.cfg.unpredictable = .refuse ∨ f = .s ∨ f = .d) : sixteenMode i f write s = .refused .sixteenRegisterMode := by
  cases f
  case s | d => rfl
  case ps | pw => exact unpredictableResult_refuses (by simpa using h)

theorem withOne_sixteen {i : Instr} {f : Fmt} {fs : FReg} {free : State → State} {s : State} {body : BitVec 64 → Out}
    (hu : Usable i s) (hm : s.fp32regs = false) : withOne i f fs free s body = sixteenMode i f free s := by
  simp [withOne, guarded_usable hu, hm]

theorem withTwo_sixteen {i : Instr} {f : Fmt} {fs ft : FReg} {free : State → State} {s : State}
    {body : BitVec 64 → BitVec 64 → Out} (hu : Usable i s) (hm : s.fp32regs = false) :
    withTwo i f fs ft free s body = sixteenMode i f free s := by
  simp [withTwo, guarded_usable hu, hm]

theorem valueFpr_unreadable {s : State} {r : FReg} {f : Fmt} (h : ¬ Readable s r f) : valueFpr s r f = none :=
  if_neg h

theorem withOne_unreadable {i : Instr} {f : Fmt} {fs : FReg} {free : State → State} {s : State}
    {body : BitVec 64 → Out} (hu : Usable i s) (hm : s.fp32regs = true) (hr : ¬ Readable s fs f) :
    withOne i f fs free s body = unpredictableResult .operandFormat i [fs] free s := by
  simp [withOne, guarded_usable hu, hm, valueFpr_unreadable hr]

theorem withTwo_unreadable {i : Instr} {f : Fmt} {fs ft : FReg} {free : State → State} {s : State}
    {body : BitVec 64 → BitVec 64 → Out} (hu : Usable i s) (hm : s.fp32regs = true)
    (hr : ¬ Readable s fs f ∨ ¬ Readable s ft f) :
    withTwo i f fs ft free s body = unpredictableResult .operandFormat i [fs, ft] free s := by
  rcases hr with hr | hr
  · simp [withTwo, guarded_usable hu, hm, valueFpr_unreadable hr]
  · simp [withTwo, guarded_usable hu, hm, valueFpr_unreadable hr]

/-- Instruction i begins with the checks of R130 on one or two operand registers of its source format. -/
def ReadsRegisters (i : Instr) : Prop :=
  (∃ (fs : FReg) (free : State → State) (body : State → BitVec 64 → Out), sourceRegs i = [fs] ∧
      ∀ s, exec i s = withOne i (sourceFmt i) fs free s (body s)) ∨
    (∃ (fs ft : FReg) (free : State → State) (body : State → BitVec 64 → BitVec 64 → Out), sourceRegs i = [fs, ft] ∧
      ∀ s, exec i s = withTwo i (sourceFmt i) fs ft free s (body s))

theorem readsRegisters_of_not_branch {i : Instr} (hb : isBranch i = false) : ReadsRegisters i := by
  rcases exec_shape i with hs | hs | hs | hs | hs
  · obtain ⟨hb', -⟩ := hs
    simp [hb] at hb'
  · obtain ⟨-, -, -, _, fs, _, _, -, hr, hx⟩ := hs
    exact .inl ⟨fs, _, _, hr, hx⟩
  · obtain ⟨-, -, -, _, fs, ft, _, _, -, hr, hx⟩ := hs
    exact .inr ⟨fs, ft, _, _, hr, hx⟩
  · obtain ⟨-, -, -, _, fs, ft, _, -, hr, hx⟩ := hs
    exact .inr ⟨fs, ft, _, _, hr, hx⟩
  · obtain ⟨-, -, -, hf, _, fs, ft, _, _, -, hr, hx⟩ := hs
    exact .inr ⟨fs, ft, _, _, hr, fun s => by rw [hx, hf]⟩

/-- Settles O41: step 7 comes right after the checks of `Usable`, and `sixteenMode` refuses. -/
theorem sixteenRegisterModeIsRefused : Obligations.SixteenRegisterModeIsRefused := by
  intro i s hu hb hm hwhy
  rcases readsRegisters_of_not_branch hb with ⟨fs, free, body, -, hx⟩ | ⟨fs, ft, free, body, -, hx⟩
  · rw [hx, withOne_sixteen hu hm, sixteenMode_refuses hwhy]
  · rw [hx, withTwo_sixteen hu hm, sixteenMode_refuses hwhy]

theorem sourceRegs_of_branch {i : Instr} (hb : isBranch i = true) : sourceRegs i = [] := by
  rcases exec_shape i with ⟨-, -, -, hr, -⟩ | ⟨hb', -⟩ | ⟨hb', -⟩ | ⟨hb', -⟩ | ⟨hb', -⟩
  · exact hr
  all_goals simp [hb] at hb'

/-- Settles O42: an instruction with an operand register is no branch. -/
theorem operandFormatIsRefused : Obligations.OperandFormatIsRefused := by
  intro i s hu hm hdraw ⟨r, hr, hunread⟩
  have hb : isBranch i = false := by
    by_contra hb
    simp [sourceRegs_of_branch (by simpa using hb)] at hr
  rcases readsRegisters_of_not_branch hb with ⟨fs, free, body, hregs, hx⟩ | ⟨fs, ft, free, body, hregs, hx⟩
  · obtain rfl : r = fs := by simpa [hregs] using hr
    rw [hx, withOne_unreadable hu hm hunread, unpredictableResult_refuses hdraw]
  · have hor : ¬ Readable s fs (sourceFmt i) ∨ ¬ Readable s ft (sourceFmt i) := by
      obtain rfl | rfl : r = fs ∨ r = ft := by simpa [hregs] using hr
      · exact .inl hunread
      · exact .inr hunread
    rw [hx, withTwo_unreadable hu hm hor, unpredictableResult_refuses hdraw]

end Sys2Proof.Machine
end

section
/-! What every step keeps (spec/10_state.md R22 to R40): the invariant of the machine, the state nothing writes, and the
frames of the registers and condition codes, read off from `exec_next`. -/

namespace Sys2Proof.Machine

/-! Addresses -/

/-- A word-aligned address of the address space (R33). -/
def IsWordAddr (g : GprLen) (a : Addr) : Prop := wordAligned a = true ∧ inSpace g a

theorem wordAligned_wrapAddr (g : GprLen) (a : Addr) : wordAligned (wrapAddr g a) = wordAligned a := by
  cases g
  case w64 => rfl
  case w32 => simp [wrapAddr, wordAligned, BitVec.and_assoc]

theorem inSpace_wrapAddr (g : GprLen) (a : Addr) : inSpace g (wrapAddr g a) := by
  cases g
  case w64 => rfl
  case w32 => simp [wrapAddr, inSpace, BitVec.and_assoc]

theorem wordAligned_iff (a : Addr) : wordAligned a = true ↔ a.toNat % 4 = 0 := by
  have h : (a &&& 3#64).toNat = a.toNat % 4 := by
    rw [BitVec.toNat_and]
    exact Nat.and_two_pow_sub_one_eq_mod _ 2
  simp [wordAligned, ← BitVec.toNat_inj, h]

theorem wordAligned_add {a b : Addr} (ha : wordAligned a = true) (hb : wordAligned b = true) :
    wordAligned (a + b) = true := by
  rw [wordAligned_iff] at *
  rw [BitVec.toNat_add]
  omega

/-- The shift by two bits leaves the low two of the sign extended offset zero (R79). -/
theorem wordAligned_targetOffset (offset : BitVec 16) : wordAligned (targetOffset offset) = true := by
  have h : targetOffset offset &&& 3#64 = 0#64 := by
    apply BitVec.eq_of_getLsbD_eq
    intro k hk
    match k with
    | 0 | 1 =>
      rw [BitVec.getLsbD_and, targetOffset, BitVec.getLsbD_signExtend, BitVec.getLsbD_append]
      rfl
    | k + 2 =>
      have h3 : (3#64).getLsbD (k + 2) = false := by
        rw [BitVec.getLsbD_ofNat, Nat.testBit_succ, Nat.testBit_succ]
        simp
      simp [h3]
  simp [wordAligned, h]

/-- An address computed by `addrAdd` from aligned summands. -/
theorem isWordAddr_addrAdd {s : State} {a b : Addr} (ha : wordAligned a = true) (hb : wordAligned b = true) :
    IsWordAddr s.cfg.gprLen (addrAdd s a b) :=
  ⟨(wordAligned_wrapAddr _ _).trans (wordAligned_add ha hb), inSpace_wrapAddr _ _⟩

theorem toNat_wrapAddr (g : GprLen) (a : Addr) : (wrapAddr g a).toNat = a.toNat % 2 ^ gprBits g := by
  cases g
  case w64 => exact (Nat.mod_eq_of_lt a.isLt).symm
  case w32 => exact (BitVec.toNat_and ..).trans (Nat.and_two_pow_sub_one_eq_mod _ 32)

/-- Sums of addresses wrap modulo 2^GPRLEN (D11). -/
theorem toNat_addrAdd (s : State) (a b : Addr) :
    (addrAdd s a b).toNat = (a.toNat + b.toNat) % 2 ^ gprBits s.cfg.gprLen := by
  have hdvd : 2 ^ gprBits s.cfg.gprLen ∣ 2 ^ 64 := Nat.pow_dvd_pow 2 (by cases s.cfg.gprLen <;> decide)
  rw [addrAdd, toNat_wrapAddr, BitVec.toNat_add, Nat.mod_mod_of_dvd _ hdvd]

theorem isWordAddr_exceptionVector (g : GprLen) (bev : Bool) : IsWordAddr g (exceptionVector g bev) :=
  ⟨(wordAligned_wrapAddr _ _).trans (by cases bev <;> rfl), inSpace_wrapAddr _ _⟩

/-! The invariant, operation by operation -/

theorem StateInv.pc {s : State} (h : StateInv s) : IsWordAddr s.cfg.gprLen s.pc := ⟨h.pc_aligned, h.pc_inSpace⟩

theorem StateInv.ds {s : State} (h : StateInv s) {a : Addr} (ha : s.ds = some a) : IsWordAddr s.cfg.gprLen a :=
  ⟨h.ds_aligned a ha, h.ds_inSpace a ha⟩

theorem StateInv.epc {s : State} (h : StateInv s) : IsWordAddr s.cfg.gprLen s.cp0.epc := ⟨h.epc_aligned, h.epc_inSpace⟩

/-- The invariant after an update that keeps the text and the configuration. -/
theorem StateInv.update {s t : State} (h : StateInv s) (hmem : t.mem = s.mem) (hcfg : t.cfg = s.cfg)
    (hpc : IsWordAddr s.cfg.gprLen t.pc) (hds : ∀ a, t.ds = some a → IsWordAddr s.cfg.gprLen a)
    (hepc : IsWordAddr s.cfg.gprLen t.cp0.epc) : StateInv t where
  text_form := hmem ▸ h.text_form
  pc_aligned := hpc.1
  pc_inSpace := hcfg ▸ hpc.2
  ds_aligned a ha := (hds a ha).1
  ds_inSpace a ha := hcfg ▸ (hds a ha).2
  epc_aligned := hepc.1
  epc_inSpace := hcfg ▸ hepc.2

theorem StateInv.within {i : Instr} {s u : State} (h : StateInv s) (hw : Within i s u) : StateInv u := by
  rw [hw.rest]
  exact h.update rfl rfl h.pc (fun _ => h.ds) h.epc

theorem StateInv.resumeAddr {s : State} (h : StateInv s) : IsWordAddr s.cfg.gprLen (resumeAddr s) := by
  unfold Machine.resumeAddr
  split
  · exact isWordAddr_addrAdd h.pc_aligned rfl
  · exact h.pc

theorem StateInv.enterException {s : State} (h : StateInv s) (e : Exception) : StateInv (enterException e s) := by
  refine h.update rfl rfl (isWordAddr_exceptionVector _ _) nofun ?_
  show IsWordAddr _ (if s.cp0.exl then s.cp0.epc else Machine.resumeAddr s)
  split
  · exact h.epc
  · exact h.resumeAddr

theorem StateInv.advance {s : State} (h : StateInv s) : StateInv (advance s) := by
  refine h.update (advance_mem s) (advance_cfg s) ?_ (by simp) (by rw [advance_cp0]; exact h.epc)
  cases hd : s.ds with
  | none => exact advance_pc_none hd ▸ isWordAddr_addrAdd h.pc_aligned rfl
  | some a => exact advance_pc_some hd ▸ h.ds hd

theorem StateInv.branchTo {s : State} (h : StateInv s) {a : Addr} (ha : IsWordAddr s.cfg.gprLen a) :
    StateInv (branchTo a s) :=
  h.update rfl rfl (isWordAddr_addrAdd h.pc_aligned rfl) (fun _ hb => Option.some.inj hb ▸ ha) h.epc

theorem StateInv.branchTarget {s : State} (h : StateInv s) (offset : BitVec 16) :
    IsWordAddr s.cfg.gprLen (branchTarget s offset) :=
  isWordAddr_addrAdd (isWordAddr_addrAdd h.pc_aligned rfl).1 (wordAligned_targetOffset offset)

theorem StateInv.fallThrough {s : State} (h : StateInv s) : IsWordAddr s.cfg.gprLen (fallThrough s) :=
  isWordAddr_addrAdd h.pc_aligned rfl

/-- The branches are `branchAny` (R150). -/
theorem exec_branchAny {i : Instr} (hb : isBranch i = true) :
    ∃ n tf cc offset, ∀ s, exec i s = branchAny n tf i cc offset s := by
  cases i with
  | bc1any2f cc offset | bc1any2t cc offset | bc1any4f cc offset | bc1any4t cc offset =>
    exact ⟨_, _, cc, offset, fun _ => rfl⟩
  | _ => cases hb

/-- A branch leaves a word-aligned address of the address space pending (R151, R153, R154). -/
theorem StateInv.branch_ds {i : Instr} {s t : State} (h : StateInv s) (hb : isBranch i = true)
    (hx : exec i s = .next t) {a : Addr} (ha : t.ds = some a) : IsWordAddr s.cfg.gprLen a := by
  obtain ⟨n, tf, cc, offset, hi⟩ := exec_branchAny hb
  rw [hi] at hx
  rcases withNone_next hx with ⟨-, rfl | rfl | rfl⟩ | ⟨-, hx⟩
  · cases ha
  · cases ha
  · cases ha
  · cases hx
    cases ha
    split
    · exact h.branchTarget offset
    · exact h.fallThrough

theorem StateInv.exec {i : Instr} {s t : State} (h : StateInv s) (hx : exec i s = .next t) : StateInv t := by
  cases exec_next hx with
  | entered ha e u hw ht => exact ht ▸ (h.within hw).enterException e
  | completed hb u hw ht => exact ht ▸ (h.within hw).advance
  | branched hb hd a ht =>
    subst ht
    exact h.branchTo (h.branch_ds hb hx rfl)

/-- Settles O12: a step enters an exception or is an instruction, and each keeps the invariant. -/
theorem stepKeepsStateInv : Obligations.StepKeepsStateInv := by
  intro s t h hs
  rcases step_next hs with ⟨-, rfl | rfl⟩ | ⟨-, -, w, i, -, -, hx⟩
  · exact h.enterException _
  · exact h.enterException _
  · exact h.exec hx

/-- Settles O13: each field of the reset state is a literal. -/
theorem resetMeetsStateInv : Obligations.ResetMeetsStateInv where
  text_form := reset_wf
  pc_aligned := rfl
  pc_inSpace := rfl
  ds_aligned := nofun
  ds_inSpace := nofun
  epc_aligned := rfl
  epc_inSpace := rfl

/-! The state nothing writes -/

/-- The text and the controls of t are those of s. -/
structure SameFixed (s t : State) : Prop where
  mem : t.mem = s.mem
  cfg : t.cfg = s.cfg
  halt : t.halt = s.halt
  cu1 : t.cu1 = s.cu1
  fp32regs : t.fp32regs = s.fp32regs
  rm : t.fcsr.rm = s.fcsr.rm
  fs : t.fcsr.fs = s.fcsr.fs
  enables : t.fcsr.enables = s.fcsr.enables

/-- The state before an instruction moves control: what it wrote, and then at most pc, ds and CP0. -/
theorem Ends.moved {i : Instr} {s t : State} (h : Ends i s t) :
    ∃ u, Within i s u ∧ t = { u with pc := t.pc, ds := t.ds, cp0 := t.cp0 } ∧
      (s.cfg.traps = .terminal → t.cp0 = s.cp0) := by
  cases h with
  | entered ha e u hw ht => exact ⟨u, hw, ht ▸ rfl, by simp [ha]⟩
  | completed hb u hw ht =>
    subst ht
    refine ⟨u, hw, ?_, fun _ => by rw [advance_cp0, hw.rest]⟩
    unfold advance
    split <;> rfl
  | branched hb hd a ht => exact ⟨s, .refl i s, ht ▸ rfl, fun _ => ht ▸ rfl⟩

theorem exec_fixed {i : Instr} {s t : State} (h : exec i s = .next t) : SameFixed s t := by
  obtain ⟨u, hw, ht, -⟩ := (exec_next h).moved
  rw [ht, hw.rest]
  exact ⟨rfl, rfl, rfl, rfl, rfl, rfl, rfl, rfl⟩

theorem enterException_fixed (e : Exception) (s : State) : SameFixed s (enterException e s) :=
  ⟨rfl, rfl, rfl, rfl, rfl, rfl, rfl, rfl⟩

theorem step_fixed {s t : State} (h : step s = .next t) : SameFixed s t := by
  rcases step_next h with ⟨-, rfl | rfl⟩ | ⟨-, -, w, i, -, -, hx⟩
  · exact enterException_fixed _ _
  · exact enterException_fixed _ _
  · exact exec_fixed hx

theorem step_cp0 {s t : State} (h : step s = .next t) (htraps : s.cfg.traps = .terminal) : t.cp0 = s.cp0 := by
  rcases step_next h with ⟨ha, -⟩ | ⟨-, -, w, i, -, -, hx⟩
  · simp [ha] at htraps
  · obtain ⟨-, -, -, hcp0⟩ := (exec_next hx).moved
    exact hcp0 htraps

/-- Settles O14: `step_fixed`, and `step_cp0` where no exception is entered. -/
theorem stepKeepsFixedState : Obligations.StepKeepsFixedState := by
  intro s t h
  obtain ⟨hmem, hcfg, hhalt, hcu1, hmode, hrm, hfs, hen⟩ := step_fixed h
  exact ⟨fun a => by rw [hmem], hcfg, hhalt, hcu1, hmode, hrm, hfs, hen, step_cp0 h⟩

/-! The frames of the Flags, the condition codes and the registers -/

/-- Settles O15: an exception entered keeps the FCSR, and an instruction only adds Flags (`Within`). -/
theorem flagsAreSticky : Obligations.FlagsAreSticky := by
  intro s t h
  rcases step_next h with ⟨-, rfl | rfl⟩ | ⟨-, -, w, i, -, -, hx⟩
  · exact condsWithin_refl _
  · exact condsWithin_refl _
  · obtain ⟨u, hw, ht, -⟩ := (exec_next hx).moved
    rw [ht]
    exact hw.flags

/-- Settles O16: control moves without the FCSR (`Ends.moved`), and what is written before is `Within`. -/
theorem conditionCodeFrame : Obligations.ConditionCodeFrame := by
  intro i s t h n hn
  obtain ⟨u, hw, ht, -⟩ := (exec_next h).moved
  rw [ht]
  exact hw.fcc n hn

/-- Settles O17: control moves without the registers (`Ends.moved`), and what is written before is `Within`. -/
theorem registerFrame : Obligations.RegisterFrame := by
  intro i s t h r hr hu
  obtain ⟨u, hw, ht, -⟩ := (exec_next h).moved
  rw [ht]
  exact hw.fpr r hr hu

/-! The advance of the pc -/

/-- Settles O18: where no exception is entered, an instruction advances (R34) or is a branch (R152). -/
theorem pcAndDelaySlotAdvance : Obligations.PcAndDelaySlotAdvance := by
  intro i s t htraps h
  cases exec_next h with
  | entered ha => simp [ha] at htraps
  | completed hb u hw ht =>
    have hpc : u.pc = s.pc := by rw [hw.rest]
    have hds : u.ds = s.ds := by rw [hw.rest]
    have hadd : addrAdd u u.pc 4#64 = addrAdd s s.pc 4#64 := by rw [addrAdd, addrAdd, hw.cfg, hpc]
    subst ht
    refine ⟨fun _ hd => ⟨?_, advance_ds u⟩, fun _ d hd => ⟨?_, advance_ds u⟩, by simp [hb], toNat_addrAdd s⟩
    · rw [advance_pc_none (hds.trans hd), hadd]
    · exact advance_pc_some (hds.trans hd)
  | branched hb hd a ht =>
    subst ht
    exact ⟨by simp [hb], by simp [hb], fun _ => ⟨rfl, rfl⟩, toNat_addrAdd s⟩

end Sys2Proof.Machine
end

section
/-! The free upper halves of S registers never influence a step (R21, R125): a relation between outcomes,
`SameOut`, and one lemma for each shared operation that keeps it. -/

namespace Sys2Proof.Machine

/-! States that agree but for the free halves and the counter of draws -/

/-- The update neither reads nor writes the registers and the counter of draws. -/
def IgnoresFree (f : State → State) : Prop :=
  ∀ s v n, f { s with fpr := v, draws := n } = { f s with fpr := v, draws := n }

theorem SameButFree.map {f : State → State} {s s' : State} (hf : IgnoresFree f) (h : SameButFree s s') :
    SameButFree (f s) (f s') := by
  have hs : (f s).fpr = s.fpr := (congrArg State.fpr (hf s s.fpr s.draws) :)
  have hs' : f s' = { f s with fpr := s'.fpr, draws := s'.draws } := (congrArg f h.2).trans (hf _ _ _)
  refine ⟨fun r => ?_, by rw [hs']⟩
  rw [getFpr_congr hs, getFpr_congr (s := s') (congrArg State.fpr hs' :)]
  exact h.1 r

/-- What is computed without the registers and the counter of draws is the same. -/
theorem SameButFree.same {α : Type} {s s' : State} (h : SameButFree s s') (f : State → α)
    (hf : ∀ s v n, f { s with fpr := v, draws := n } = f s) : f s' = f s :=
  (congrArg f h.2).trans (hf _ _ _)

theorem SameButFree.cfg {s s' : State} (h : SameButFree s s') : s'.cfg = s.cfg := h.same State.cfg fun _ _ _ => rfl
theorem SameButFree.fcsr {s s' : State} (h : SameButFree s s') : s'.fcsr = s.fcsr := h.same State.fcsr fun _ _ _ => rfl
theorem SameButFree.pc {s s' : State} (h : SameButFree s s') : s'.pc = s.pc := h.same State.pc fun _ _ _ => rfl
theorem SameButFree.ds {s s' : State} (h : SameButFree s s') : s'.ds = s.ds := h.same State.ds fun _ _ _ => rfl
theorem SameButFree.cu1 {s s' : State} (h : SameButFree s s') : s'.cu1 = s.cu1 := h.same State.cu1 fun _ _ _ => rfl
theorem SameButFree.fp32regs {s s' : State} (h : SameButFree s s') : s'.fp32regs = s.fp32regs :=
  h.same State.fp32regs fun _ _ _ => rfl

theorem ignoresFree_setCause (c : Cause) : IgnoresFree (setCause c) := fun _ _ _ => rfl
theorem ignoresFree_orFlags (c : Conds) : IgnoresFree (orFlags c) := fun _ _ _ => rfl
theorem ignoresFree_setCc (n : CcNum) (b : Bool) : IgnoresFree (setCc n b) := fun _ _ _ => rfl
theorem ignoresFree_enterException (e : Exception) : IgnoresFree (enterException e) := fun _ _ _ => rfl
theorem ignoresFree_advance : IgnoresFree advance := fun s _ _ => by
  simp only [advance]
  split <;> rfl

/-! Registers -/

theorem sameMeaning_refl (a : Fpr) : sameMeaning a a := ⟨rfl, rfl, .inr (.inr rfl)⟩

theorem SameButFree.setFpr {s s' : State} {v v' : Fpr} (h : SameButFree s s') (hv : sameMeaning v v') (r : FReg) :
    SameButFree (setFpr r v s) (setFpr r v' s') := by
  refine ⟨fun q => ?_, ?_⟩
  · rw [getFpr_setFpr, getFpr_setFpr]
    split
    · exact hv
    · exact h.1 q
  · rw [h.2]
    rfl

theorem SameButFree.draws {s s' : State} (h : SameButFree s s') (n n' : Nat) :
    SameButFree { s with draws := n } { s' with draws := n' } :=
  ⟨h.1, by rw [h.2]⟩

/-- Results of format S differ in the free half at most. -/
theorem sameMeaning_single (u u' : BitVec 32) (v : BitVec 32) : sameMeaning ⟨.s, u ++ v⟩ ⟨.s, u' ++ v⟩ := by
  refine ⟨rfl, ?_, .inl rfl⟩
  show (u ++ v).extractLsb' 0 32 = (u' ++ v).extractLsb' 0 32
  rw [BitVec.extractLsb'_append_eq_right, BitVec.extractLsb'_append_eq_right]

theorem SameButFree.storeFpr {s s' : State} (h : SameButFree s s') (r : FReg) (f : Fmt) (v : BitVec 64) :
    SameButFree (storeFpr r f v s) (storeFpr r f v s') := by
  cases f
  case s => exact (h.setFpr (sameMeaning_single _ _ _) r).draws _ _
  case d | ps | pw => exact h.setFpr (sameMeaning_refl _) r

/-- A register read in format S gives its lower half, which has a meaning under every tag; one that may
be read in another format has a tag that gives all bits a meaning (R21). -/
theorem SameButFree.valueFpr {s s' : State} (h : SameButFree s s') (r : FReg) (f : Fmt) :
    valueFpr s' r f = valueFpr s r f := by
  obtain ⟨htag, hlow, hbits⟩ := h.1 r
  unfold Machine.valueFpr
  rw [← htag]
  split
  case isFalse => rfl
  case isTrue hr =>
    cases f
    case s => simp only [operandBits, hlow]
    all_goals
      rcases hbits with ht | ht | hb
      · simp [ht, tagAllows] at hr
      · simp [ht, tagAllows] at hr
      · simp only [operandBits, hb]

/-! Outcomes -/

/-- The two outcomes are of one kind, for the same reason, and their states agree but for the free halves. -/
inductive SameOut : Out → Out → Prop where
  | next {t t' : State} (h : SameButFree t t') : SameOut (.next t) (.next t')
  | refused (why : Refusal) : SameOut (.refused why) (.refused why)
  | final : SameOut (.fault .final) (.fault .final)
  | stuck : SameOut (.fault .stuck) (.fault .stuck)
  | exception {r r' : FaultRecord} (hr : r' = { r with recorded := r'.recorded })
      (h : SameButFree r.recorded r'.recorded) : SameOut (.fault (.exception r)) (.fault (.exception r'))

theorem raise_same {s s' : State} (h : SameButFree s s') (e : Exception) : SameOut (raise e s) (raise e s') := by
  unfold raise
  rw [h.cfg]
  split
  · refine .exception ?_ h
    simp only [faultRecord, h.pc, h.ds, h.same resumeAddr fun _ _ _ => rfl]
  · exact .next (h.map (ignoresFree_enterException e))

theorem signal_same {s s' : State} (h : SameButFree s s') (c : Cause) {write : State → State}
    (hw : ∀ t t', SameButFree t t' → SameButFree (write t) (write t')) :
    SameOut (signal c write s) (signal c write s') := by
  have hc := h.map (ignoresFree_setCause c)
  unfold signal
  rw [h.fcsr]
  split
  · exact raise_same hc _
  · exact .next ((hw _ _ (hc.map (ignoresFree_orFlags c.conds))).map ignoresFree_advance)

theorem guarded_same {s s' : State} {body body' : Out} (h : SameButFree s s') (i : Instr) (hb : SameOut body body') :
    SameOut (guarded i s body) (guarded i s' body') := by
  unfold guarded
  rw [h.cu1, h.cfg]
  split
  · exact raise_same h _
  · split
    · exact .refused _
    · split
      · exact raise_same h _
      · exact hb

theorem unlessUnimplemented_same {s s' : State} {body body' : Out} (h : SameButFree s s') (i : Instr)
    (ops : List (BitVec 64)) (hb : SameOut body body') :
    SameOut (unlessUnimplemented i ops s body) (unlessUnimplemented i ops s' body') := by
  unfold unlessUnimplemented
  rw [h.same (unimplementedOp · i ops) fun _ _ _ => rfl]
  split
  · exact raise_same (h.map (ignoresFree_setCause causeE)) _
  · exact hb

theorem withNone_same {s s' : State} {body body' : Out} (h : SameButFree s s') (i : Instr) (hb : SameOut body body') :
    SameOut (withNone i s body) (withNone i s' body') := by
  refine guarded_same h i ?_
  rw [h.ds]
  split
  · exact .refused _
  · exact unlessUnimplemented_same h i _ hb

theorem withOne_same {s s' : State} (hu : s.cfg.unpredictable = .refuse) (h : SameButFree s s') (i : Instr) (f : Fmt)
    (fs : FReg) (free : State → State) {body body' : BitVec 64 → Out} (hb : ∀ a, SameOut (body a) (body' a)) :
    SameOut (withOne i f fs free s body) (withOne i f fs free s' body') := by
  have hu' : s'.cfg.unpredictable = .refuse := h.cfg ▸ hu
  refine guarded_same h i ?_
  rw [h.fp32regs, h.valueFpr, sixteenMode_refuses (.inl hu), sixteenMode_refuses (.inl hu'),
    unpredictableResult_refuses hu, unpredictableResult_refuses hu']
  split
  · exact .refused _
  · split
    · exact unlessUnimplemented_same h i _ (hb _)
    · exact .refused _

theorem withTwo_same {s s' : State} (hu : s.cfg.unpredictable = .refuse) (h : SameButFree s s') (i : Instr) (f : Fmt)
    (fs ft : FReg) (free : State → State) {body body' : BitVec 64 → BitVec 64 → Out}
    (hb : ∀ a b, SameOut (body a b) (body' a b)) :
    SameOut (withTwo i f fs ft free s body) (withTwo i f fs ft free s' body') := by
  have hu' : s'.cfg.unpredictable = .refuse := h.cfg ▸ hu
  refine guarded_same h i ?_
  rw [h.fp32regs, h.valueFpr, h.valueFpr, sixteenMode_refuses (.inl hu), sixteenMode_refuses (.inl hu'),
    unpredictableResult_refuses hu, unpredictableResult_refuses hu']
  split
  · exact .refused _
  · split
    · exact unlessUnimplemented_same h i _ (hb _ _)
    · exact .refused _

/-! Instructions and steps -/

theorem branchAny_same {s s' : State} (h : SameButFree s s') (n : Nat) (tf : Bool) (i : Instr) (cc : CcNum)
    (offset : BitVec 16) : SameOut (branchAny n tf i cc offset s) (branchAny n tf i cc offset s') :=
  withNone_same h i (.next (h.map (f := fun s =>
    branchTo (if anyCc s.fcsr cc tf n then branchTarget s offset else fallThrough s) s) fun _ _ _ => rfl))

theorem exec_same {s s' : State} (hu : s.cfg.unpredictable = .refuse) (h : SameButFree s s') (i : Instr) :
    SameOut (exec i s) (exec i s') := by
  rcases exec_shape i with hs | hs | hs | hs | hs
  · obtain ⟨hb, -⟩ := hs
    obtain ⟨n, tf, cc, offset, hx⟩ := exec_branchAny hb
    rw [hx, hx]
    exact branchAny_same h n tf i cc offset
  · obtain ⟨-, -, -, fd, fs, f, res, -, -, hx⟩ := hs
    rw [hx, hx, h.cfg, h.fcsr]
    exact withOne_same hu h _ _ _ _ fun a => signal_same h _ fun t t' ht => ht.storeFpr _ _ _
  · obtain ⟨-, -, -, fd, fs, ft, f, res, -, -, hx⟩ := hs
    rw [hx, hx, h.cfg, h.fcsr]
    exact withTwo_same hu h _ _ _ _ _ fun a b => signal_same h _ fun t t' ht => ht.storeFpr _ _ _
  · obtain ⟨-, -, -, cc, fs, ft, res, -, -, hx⟩ := hs
    rw [hx, hx, h.cfg]
    exact withTwo_same hu h _ _ _ _ _ fun a b => signal_same h _ fun t t' ht => ht.map (ignoresFree_setCc _ _)
  · obtain ⟨-, -, -, -, cc, fs, ft, lower, upper, -, -, hx⟩ := hs
    rw [hx, hx, h.cfg]
    exact withTwo_same hu h _ _ _ _ _ fun a b => signal_same h _ fun t t' ht =>
      (ht.map (ignoresFree_setCc _ _)).map (ignoresFree_setCc _ _)

theorem runWord_same {s s' : State} (hu : s.cfg.unpredictable = .refuse) (h : SameButFree s s') (w : Word) :
    SameOut (runWord w s) (runWord w s') := by
  unfold runWord
  rw [h.cu1]
  split
  · exact exec_same hu h _
  · split
    · exact raise_same h _
    · exact .refused _

theorem step_same {s s' : State} (hu : s.cfg.unpredictable = .refuse) (h : SameButFree s s') :
    SameOut (step s) (step s') := by
  unfold step cycle
  rw [h.pc, h.same isFinal fun _ _ _ => rfl, h.same (fetchWord · s.pc) fun _ _ _ => rfl]
  split
  · exact .final
  · split
    · exact raise_same h _
    · split
      · exact .stuck
      · exact runWord_same hu h _

/-- Settles O58: the simulation `step_same`, read off for each kind of outcome. -/
theorem freeHalvesAreNeverRead : Obligations.FreeHalvesAreNeverRead := by
  intro s s' hu h
  have hstep := step_same hu h
  generalize step s = o at hstep ⊢
  generalize step s' = o' at hstep ⊢
  cases hstep with
  | next h => simp [h]
  | refused why => simp
  | final => simp
  | stuck => simp
  | exception hr h => simpa using ⟨hr, h⟩

end Sys2Proof.Machine
end

section
/-! The choice of the rounding modes (R111) and the FCSR as a 32-bit word (R24). -/

namespace Sys2Proof.Machine

/-! Rounding -/

theorem roundChoice_rn {den : Nat} (s : Bool) (num lo : Nat) (h : 0 < den) :
    roundChoice .rn s lo (remainderOf num den) =
      if den < 2 * (num % den) ∨ (2 * (num % den) = den ∧ lo % 2 = 1) then lo + 1 else lo := by
  unfold remainderOf
  split
  case isTrue hzero => rw [if_neg (by omega)]; rfl
  split
  case isTrue hbelow => rw [if_neg (by omega)]; rfl
  split
  case isTrue hhalf => simp [roundChoice, hhalf]
  case isFalse habove => rw [if_pos (by omega)]; rfl

theorem roundChoice_rz (s : Bool) (lo : Nat) (r : Remainder) : roundChoice .rz s lo r = lo := by
  cases r <;> rfl

theorem remainderOf_eq_zero_iff (num den : Nat) : remainderOf num den = .zero ↔ num % den = 0 := by
  unfold remainderOf
  split_ifs <;> simp_all

theorem roundChoice_rp (s : Bool) (lo : Nat) (r : Remainder) :
    roundChoice .rp s lo r = if s = false ∧ r ≠ .zero then lo + 1 else lo := by
  cases s <;> cases r <;> rfl

theorem roundChoice_rm (s : Bool) (lo : Nat) (r : Remainder) :
    roundChoice .rm s lo r = if s = true ∧ r ≠ .zero then lo + 1 else lo := by
  cases s <;> cases r <;> rfl

/-- Settles O49: one closed form of `roundChoice` for each mode. -/
theorem roundingModeChoice : Obligations.RoundingModeChoice := by
  intro s num den hden
  have hzero : remainderOf num den ≠ .zero ↔ 0 < num % den := by
    rw [ne_eq, remainderOf_eq_zero_iff, Nat.pos_iff_ne_zero]
  refine ⟨roundChoice_rn s num _ hden, roundChoice_rz s _ _, ?_, ?_⟩
  · simp only [← hzero]
    exact roundChoice_rp s _ _
  · simp only [← hzero]
    exact roundChoice_rm s _ _

/-! The word of an FCSR -/

theorem rmOfCode_rmCode (m : RoundingMode) : rmOfCode (rmCode m) = m := by
  cases m <;> rfl

theorem rmCode_rmOfCode (b : BitVec 2) : rmCode (rmOfCode b) = b := by
  revert b
  decide

theorem condsOfCode_condsCode (c : Conds) : condsOfCode (condsCode c) = c := by
  obtain ⟨v, z, o, u, i⟩ := c
  revert v z o u i
  decide

theorem condsCode_condsOfCode (b : BitVec 5) : condsCode (condsOfCode b) = b := by
  revert b
  decide

theorem condsCode_getLsbD (c : Conds) :
    (condsCode c).getLsbD 0 = c.i ∧ (condsCode c).getLsbD 1 = c.u ∧ (condsCode c).getLsbD 2 = c.o ∧
      (condsCode c).getLsbD 3 = c.z ∧ (condsCode c).getLsbD 4 = c.v := by
  obtain ⟨v, z, o, u, i⟩ := c
  revert v z o u i
  decide

/-- The bit of condition code n in the word (R24, R30): FCC[0] stands apart, below FS. -/
def fccBit (n : CcNum) : Nat := if n = 0#3 then 23 else 24 + n.toNat

/-- The word has the fields that R24 lays out, each the code of the field of the FCSR. -/
structure HoldsFields (w : BitVec 32) (f : Fcsr) : Prop where
  rm : w.extractLsb' 0 2 = rmCode f.rm
  flags : w.extractLsb' 2 5 = condsCode f.flags
  enables : w.extractLsb' 7 5 = condsCode f.enables
  causeConds : w.extractLsb' 12 5 = condsCode f.cause.conds
  causeE : w.extractLsb' 17 1 = BitVec.ofBool f.cause.e
  reserved : w.extractLsb' 18 5 = 0#5
  fs : w.extractLsb' 24 1 = BitVec.ofBool f.fs
  fcc : ∀ n, w.extractLsb' (fccBit n) 1 = BitVec.ofBool (fccGet f n)

/-- Each field of the word is one of the parts it is appended from. -/
theorem fcsrToWord_holdsFields (f : Fcsr) : HoldsFields (fcsrToWord f) f := by
  constructor
  case fcc =>
    intro n
    match n with
    | 0#3 | 1#3 | 2#3 | 3#3 | 4#3 | 5#3 | 6#3 | 7#3 =>
      simp (disch := decide) only [fcsrToWord, BitVec.extractLsb'_append_eq_of_add_le,
        BitVec.extractLsb'_append_eq_of_le]
      simp [fccBit]
  all_goals
    simp (disch := omega) only [fcsrToWord, BitVec.extractLsb'_append_eq_of_add_le, BitVec.extractLsb'_append_eq_of_le]
    simp

theorem getLsbD_eq_of_extractLsb'_one {w : BitVec 32} {k : Nat} {b : Bool}
    (h : w.extractLsb' k 1 = BitVec.ofBool b) : w.getLsbD k = b := by
  have h0 := congrArg (BitVec.getLsbD · 0) h
  simpa [BitVec.getLsbD_extractLsb'] using h0

/-- The bits of five conditions at their place in a word (R24). -/
theorem bits_of_extractLsb'_eq_condsCode {w : BitVec 32} {k : Nat} {c : Conds} (h : w.extractLsb' k 5 = condsCode c) :
    w.getLsbD k = c.i ∧ w.getLsbD (k + 1) = c.u ∧ w.getLsbD (k + 2) = c.o ∧ w.getLsbD (k + 3) = c.z ∧
      w.getLsbD (k + 4) = c.v := by
  have hbits := condsCode_getLsbD c
  rw [← h] at hbits
  simpa only [BitVec.getLsbD_extractLsb', Nat.reduceLT, decide_true, Bool.true_and, Nat.add_zero] using hbits

theorem fccGet_fcsrOfWord (w : BitVec 32) (n : CcNum) : fccGet (fcsrOfWord w) n = w.getLsbD (fccBit n) := by
  match n with
  | 0#3 | 1#3 | 2#3 | 3#3 | 4#3 | 5#3 | 6#3 | 7#3 => rfl

/-- Two FCSRs are equal when their fields and their condition codes are. -/
theorem fcsr_ext {f g : Fcsr} (hrm : f.rm = g.rm) (hfs : f.fs = g.fs) (hcause : f.cause = g.cause)
    (hen : f.enables = g.enables) (hfl : f.flags = g.flags) (hfcc : ∀ n, fccGet f n = fccGet g n) : f = g := by
  have hvec : f.fcc = g.fcc := Vector.ext fun k hk => by
    simpa [fccGet, Nat.mod_eq_of_lt hk] using hfcc (BitVec.ofNat 3 k)
  obtain ⟨⟩ := f
  obtain ⟨⟩ := g
  simp only [Fcsr.mk.injEq] at *
  exact ⟨hrm, hfs, hcause, hen, hfl, hvec⟩

/-- A word is read back as the FCSR whose fields it holds. -/
theorem HoldsFields.fcsrOfWord_eq {w : BitVec 32} {f : Fcsr} (h : HoldsFields w f) : fcsrOfWord w = f := by
  refine fcsr_ext ?_ (getLsbD_eq_of_extractLsb'_one h.fs) ?_ ?_ ?_ fun n => ?_
  · exact (congrArg rmOfCode h.rm).trans (rmOfCode_rmCode _)
  · have hconds := (congrArg condsOfCode h.causeConds).trans (condsOfCode_condsCode _)
    exact congrArg₂ Cause.mk (getLsbD_eq_of_extractLsb'_one h.causeE) hconds
  · exact (congrArg condsOfCode h.enables).trans (condsOfCode_condsCode _)
  · exact (congrArg condsOfCode h.flags).trans (condsOfCode_condsCode _)
  · exact (fccGet_fcsrOfWord w n).trans (getLsbD_eq_of_extractLsb'_one (h.fcc n))

theorem getLsbD_eq_of_extractLsb'_eq {x y : BitVec 32} {a b k : Nat} (h : x.extractLsb' a b = y.extractLsb' a b)
    (ha : a ≤ k) (hb : k < a + b) : x.getLsbD k = y.getLsbD k := by
  have hk := congrArg (BitVec.getLsbD · (k - a)) h
  simpa [BitVec.getLsbD_extractLsb', show k - a < b by omega, Nat.add_sub_cancel' ha] using hk

/-- Two words that hold the fields of the same FCSR are equal: the fields cover all 32 bits. -/
theorem HoldsFields.unique {x y : BitVec 32} {f : Fcsr} (hx : HoldsFields x f) (hy : HoldsFields y f) : x = y := by
  apply BitVec.eq_of_getLsbD_eq
  intro k hk
  have hfcc : ∀ n, k = fccBit n → x.getLsbD k = y.getLsbD k := fun n hn =>
    getLsbD_eq_of_extractLsb'_eq ((hx.fcc n).trans (hy.fcc n).symm) hn.ge (by omega)
  obtain h | h | h | h | h | h | h | h | h : k < 2 ∨ (2 ≤ k ∧ k < 7) ∨ (7 ≤ k ∧ k < 12) ∨ (12 ≤ k ∧ k < 17) ∨ k = 17 ∨
      (18 ≤ k ∧ k < 23) ∨ k = 23 ∨ k = 24 ∨ (25 ≤ k ∧ k < 32) := by omega
  · exact getLsbD_eq_of_extractLsb'_eq (hx.rm.trans hy.rm.symm) (by omega) (by omega)
  · exact getLsbD_eq_of_extractLsb'_eq (hx.flags.trans hy.flags.symm) (by omega) (by omega)
  · exact getLsbD_eq_of_extractLsb'_eq (hx.enables.trans hy.enables.symm) (by omega) (by omega)
  · exact getLsbD_eq_of_extractLsb'_eq (hx.causeConds.trans hy.causeConds.symm) (by omega) (by omega)
  · exact getLsbD_eq_of_extractLsb'_eq (hx.causeE.trans hy.causeE.symm) (by omega) (by omega)
  · exact getLsbD_eq_of_extractLsb'_eq (hx.reserved.trans hy.reserved.symm) (by omega) (by omega)
  · exact hfcc 0#3 h
  · exact getLsbD_eq_of_extractLsb'_eq (hx.fs.trans hy.fs.symm) (by omega) (by omega)
  · refine hfcc (BitVec.ofNat 3 (k - 24)) ?_
    obtain ⟨h1, h2⟩ := h
    interval_cases k <;> rfl

theorem extractLsb'_and_of_allOnes {w m : BitVec 32} {a b : Nat} (hm : m.extractLsb' a b = BitVec.allOnes b) :
    (w &&& m).extractLsb' a b = w.extractLsb' a b := by
  rw [BitVec.extractLsb'_and, hm, BitVec.and_allOnes]

theorem extractLsb'_one (w : BitVec 32) (k : Nat) : w.extractLsb' k 1 = BitVec.ofBool (w.getLsbD k) := by
  apply BitVec.eq_of_getLsbD_eq
  intro j hj
  obtain rfl : j = 0 := by omega
  simp

/-- A word without its implementation-dependent and reserved bits holds the fields read from it. -/
theorem fcsrOfWord_holdsFields (w : BitVec 32) : HoldsFields (w &&& 0xFF83FFFF#32) (fcsrOfWord w) where
  rm := (extractLsb'_and_of_allOnes (by decide)).trans (rmCode_rmOfCode _).symm
  flags := (extractLsb'_and_of_allOnes (by decide)).trans (condsCode_condsOfCode _).symm
  enables := (extractLsb'_and_of_allOnes (by decide)).trans (condsCode_condsOfCode _).symm
  causeConds := (extractLsb'_and_of_allOnes (by decide)).trans (condsCode_condsOfCode _).symm
  causeE := (extractLsb'_and_of_allOnes (by decide)).trans (extractLsb'_one w 17)
  reserved := by simp [BitVec.extractLsb'_and]
  fs := (extractLsb'_and_of_allOnes (by decide)).trans (extractLsb'_one w 24)
  fcc n := by
    rw [fccGet_fcsrOfWord, ← extractLsb'_one]
    exact extractLsb'_and_of_allOnes (by revert n; decide)

/-- Settles O59: `HoldsFields` says the layout, and a word and an FCSR that it relates determine each other. -/
theorem fcsrWordRoundTrip : Obligations.FcsrWordRoundTrip := by
  refine ⟨fun f => (fcsrToWord_holdsFields f).fcsrOfWord_eq, fun w =>
    (fcsrToWord_holdsFields _).unique (fcsrOfWord_holdsFields w), fun f => ?_⟩
  have h := fcsrToWord_holdsFields f
  obtain ⟨f0, f1, f2, f3, f4⟩ := bits_of_extractLsb'_eq_condsCode h.flags
  obtain ⟨e0, e1, e2, e3, e4⟩ := bits_of_extractLsb'_eq_condsCode h.enables
  obtain ⟨c0, c1, c2, c3, c4⟩ := bits_of_extractLsb'_eq_condsCode h.causeConds
  have hfcc : ∀ n, (fcsrToWord f).getLsbD (fccBit n) = fccGet f n := fun n => getLsbD_eq_of_extractLsb'_one (h.fcc n)
  refine ⟨h.rm, f0, f1, f2, f3, f4, e0, e1, e2, e3, e4, c0, c1, c2, c3, c4, getLsbD_eq_of_extractLsb'_one h.causeE,
    h.reserved, hfcc 0#3, getLsbD_eq_of_extractLsb'_one h.fs, fun n hn => ?_⟩
  simpa [fccBit, hn] using hfcc n

end Sys2Proof.Machine
end

section
/-! The text of the machine (spec/20_memory.md R50 to R55): what a read returns after a write of a byte, of bytes and of
a word, and what a step does where no word is fetched. No fact here needs the list of cells to be sorted. -/

namespace Sys2Proof.Machine

/-! Bytes -/

@[simp] theorem memRead_memWrite_same (m : Memory) (a : Nat) (b : Byte) : memRead (memWrite m a b) a = some b := by
  induction m with
  | nil => simp [memWrite, memRead]
  | cons c m ih =>
    unfold memWrite
    split
    case isTrue => simp [memRead]
    case isFalse =>
      split
      case isTrue => simp [memRead]
      case isFalse hne => simpa [memRead, Ne.symm hne] using ih

theorem memRead_memWrite_of_ne (m : Memory) {a x : Nat} (b : Byte) (h : x ≠ a) :
    memRead (memWrite m a b) x = memRead m x := by
  induction m with
  | nil => simp [memWrite, memRead, h.symm]
  | cons c m ih =>
    unfold memWrite
    split
    case isTrue => simp [memRead, h.symm]
    case isFalse =>
      split
      case isTrue heq => simp [memRead, h.symm, ← heq]
      case isFalse => simp [memRead, ih]

/-- The frame of a write of bytes: the addresses outside its range. -/
theorem memRead_memWriteBytes_of_outside (m : Memory) {a x : Nat} {bs : List Byte} (h : x < a ∨ a + bs.length ≤ x) :
    memRead (memWriteBytes m a bs) x = memRead m x := by
  induction bs generalizing m a with
  | nil => rfl
  | cons b bs ih =>
    rw [List.length_cons] at h
    calc memRead (memWriteBytes (memWrite m a b) (a + 1) bs) x
      _ = memRead (memWrite m a b) x := ih _ (by omega)
      _ = memRead m x := memRead_memWrite_of_ne m b (by omega)

theorem memRead_memWriteBytes_add (m : Memory) (a : Nat) {bs : List Byte} {k : Nat} (hk : k < bs.length) :
    memRead (memWriteBytes m a bs) (a + k) = some bs[k] := by
  induction bs generalizing m a k with
  | nil => cases hk
  | cons b bs ih =>
    cases k with
    | zero =>
      exact (memRead_memWriteBytes_of_outside _ (.inl (Nat.lt_succ_self a))).trans (memRead_memWrite_same m a b)
    | succ k =>
      rw [show a + (k + 1) = a + 1 + k by omega]
      exact ih (memWrite m a b) (a + 1) (Nat.lt_of_succ_lt_succ hk)

/-! Words -/

@[simp] theorem length_bytesOfWord (bigEndian : Bool) (w : Word) : (bytesOfWord bigEndian w).length = 4 := by
  cases bigEndian <;> rfl

/-- The byte at the lowest address: the most significant one exactly in big-endian order (R52). -/
theorem getElem_zero_bytesOfWord (bigEndian : Bool) (w : Word) :
    (bytesOfWord bigEndian w)[0] = if bigEndian then w.extractLsb' 24 8 else w.extractLsb' 0 8 := by
  cases bigEndian <;> rfl

/-- The four bytes of a word, the most significant first, are the word. -/
theorem append_bytes_eq (w : Word) :
    w.extractLsb' 24 8 ++ w.extractLsb' 16 8 ++ w.extractLsb' 8 8 ++ w.extractLsb' 0 8 = w := by
  rw [BitVec.extractLsb'_append_extractLsb'_eq_extractLsb' (by rfl),
    BitVec.extractLsb'_append_extractLsb'_eq_extractLsb' (by rfl),
    BitVec.extractLsb'_append_extractLsb'_eq_extractLsb' (by rfl)]
  exact BitVec.extractLsb'_eq_self

/-- `wordOfBytes` undoes `bytesOfWord` in either byte order (R52). -/
theorem wordOfBytes_bytesOfWord (bigEndian : Bool) (w : Word) :
    wordOfBytes bigEndian (bytesOfWord bigEndian w)[0] (bytesOfWord bigEndian w)[1]
      (bytesOfWord bigEndian w)[2] (bytesOfWord bigEndian w)[3] = w := by
  cases bigEndian <;> exact append_bytes_eq w

theorem fetchWord_eq_some {s : State} {a : Addr} {b0 b1 b2 b3 : Byte} (h0 : memRead s.mem a.toNat = some b0)
    (h1 : memRead s.mem (a.toNat + 1) = some b1) (h2 : memRead s.mem (a.toNat + 2) = some b2)
    (h3 : memRead s.mem (a.toNat + 3) = some b3) : fetchWord s a = some (wordOfBytes s.cfg.bigEndian b0 b1 b2 b3) := by
  simp only [fetchWord, h0, h1, h2, h3]

/-- A fetch looks at the byte order and at four bytes. -/
theorem fetchWord_congr {s t : State} {a : Addr} (hcfg : t.cfg = s.cfg)
    (h : ∀ k < 4, memRead t.mem (a.toNat + k) = memRead s.mem (a.toNat + k)) : fetchWord t a = fetchWord s a := by
  have h0 : memRead t.mem a.toNat = memRead s.mem a.toNat := h 0 (by decide)
  simp only [fetchWord, hcfg, h0, h 1 (by decide), h 2 (by decide), h 3 (by decide)]

theorem memRead_loadWord_add (s : State) (a : Addr) (w : Word) {k : Nat}
    (hk : k < (bytesOfWord s.cfg.bigEndian w).length) :
    memRead (loadWord s a w).mem (a.toNat + k) = some (bytesOfWord s.cfg.bigEndian w)[k] :=
  memRead_memWriteBytes_add s.mem a.toNat hk

theorem memRead_loadWord_of_outside (s : State) {a : Addr} (w : Word) {x : Nat} (h : x < a.toNat ∨ a.toNat + 4 ≤ x) :
    memRead (loadWord s a w).mem x = memRead s.mem x :=
  memRead_memWriteBytes_of_outside s.mem (by rwa [length_bytesOfWord])

theorem fetchWord_loadWord_same (s : State) (a : Addr) (w : Word) : fetchWord (loadWord s a w) a = some w := by
  have hread : ∀ k (hk : k < 4), memRead (loadWord s a w).mem (a.toNat + k) =
      some ((bytesOfWord s.cfg.bigEndian w)[k]'(by simpa using hk)) := fun _ _ => memRead_loadWord_add s a w _
  rw [fetchWord_eq_some (hread 0 (by decide)) (hread 1 (by decide)) (hread 2 (by decide)) (hread 3 (by decide)),
    loadWord_cfg, wordOfBytes_bytesOfWord]

/-- Two different aligned words share no byte, so a load at the one leaves the fetch at the other. -/
theorem fetchWord_loadWord_of_ne (s : State) {a b : Addr} (w : Word) (ha : wordAligned a = true)
    (hb : wordAligned b = true) (hne : b ≠ a) : fetchWord (loadWord s a w) b = fetchWord s b := by
  rw [wordAligned_iff] at ha hb
  have hnat : b.toNat ≠ a.toNat := mt BitVec.eq_of_toNat_eq hne
  exact fetchWord_congr (loadWord_cfg s a w) fun k hk => memRead_loadWord_of_outside s w (by omega)

/-- Settles O11: the bytes of the load are read back in the byte order they were laid in, and an aligned word elsewhere
has no byte among them. -/
theorem loadedWordIsFetched : Obligations.LoadedWordIsFetched := by
  intro s a w
  refine ⟨fetchWord_loadWord_same s a w, fun b ha hb hne => fetchWord_loadWord_of_ne s w ha hb hne, ?_⟩
  rw [← getElem_zero_bytesOfWord]
  exact memRead_loadWord_add s a w (k := 0) (by simp)

/-! A step before the fetch -/

theorem isFinal_iff (s : State) : isFinal s = true ↔ s.pc ∈ s.halt ∧ s.ds = none := by
  simp [isFinal]

theorem isFinal_eq_false_iff (s : State) : isFinal s = false ↔ s.pc ∉ s.halt ∨ s.ds ≠ none := by
  rw [← Bool.not_eq_true, isFinal_iff, not_and_or]

theorem wordAligned_iff_extractLsb' (a : Addr) : wordAligned a = true ↔ a.extractLsb' 0 2 = 0#2 := by
  rw [wordAligned_iff, ← BitVec.toNat_inj]
  simp

theorem step_final {s : State} (h : isFinal s = true) : step s = .fault .final := by
  simp [step, cycle, h]

theorem step_misaligned {s : State} (hf : isFinal s = false) (ha : wordAligned s.pc = false) :
    step s = raise (.addressErrorFetch s.pc) s := by
  simp [step, cycle, hf, ha]

theorem step_stuck {s : State} (hf : isFinal s = false) (ha : wordAligned s.pc = true) (hw : fetchWord s s.pc = none) :
    step s = .fault .stuck := by
  simp [step, cycle, hf, ha, hw]

/-- Settles O10: the three branches of the cycle before a word runs, in the order of R313. -/
theorem stepBeforeTheFetch : Obligations.StepBeforeTheFetch := by
  intro s
  refine ⟨fun hpc hds => ?final, fun hnf hlow => ?misaligned, fun hnf hlow hw => ?stuck⟩
  case final => exact step_final ((isFinal_iff s).mpr ⟨hpc, hds⟩)
  case misaligned =>
    have ha : wordAligned s.pc = false := by rwa [← Bool.not_eq_true, wordAligned_iff_extractLsb']
    exact step_misaligned ((isFinal_eq_false_iff s).mpr hnf) ha
  case stuck =>
    exact step_stuck ((isFinal_eq_false_iff s).mpr hnf) ((wordAligned_iff_extractLsb' s.pc).mpr hlow) hw

end Sys2Proof.Machine
end

section
/-! The four formats (R71 to R74): every instruction belongs to one of them (`inFormat`), and the decoder is described
once for each, on words given by their fields. The obligations on the encoding are read off from the two. -/

namespace Sys2Proof.Machine

/-! The instructions by format -/

/-- The rows of format FR3 (R71, R77): the fmt cell, the function cell and the instruction of the three registers. -/
inductive Fr3Row : BitVec 5 → BitVec 6 → (FReg → FReg → FReg → Instr) → Prop where
  | addrPs : Fr3Row (InstrFmt.code .ps) 0b011000#6 .addrPs
  | mulrPs : Fr3Row (InstrFmt.code .ps) 0b011010#6 .mulrPs
  | recip2 (f : InstrFmt) : Fr3Row f.code 0b011100#6 (recip2Instr f)
  | rsqrt2 (f : InstrFmt) : Fr3Row f.code 0b011111#6 (rsqrt2Instr f)

/-- The rows of format FR2 (R72, R77): as those of FR3, with the ft cell zero. -/
inductive Fr2Row : BitVec 5 → BitVec 6 → (FReg → FReg → Instr) → Prop where
  | cvtPsPw : Fr2Row pwCode 0b100110#6 .cvtPsPw
  | cvtPwPs : Fr2Row (InstrFmt.code .ps) 0b100100#6 .cvtPwPs
  | recip1 (f : InstrFmt) : Fr2Row f.code 0b011101#6 (recip1Instr f)
  | rsqrt1 (f : InstrFmt) : Fr2Row f.code 0b011110#6 (rsqrt1Instr f)

/-- Bits 25..21 of a branch on any of four or of two condition codes (R81). -/
def branchCode (four : Bool) : BitVec 5 := if four then 0b01010#5 else 0b01001#5

/-- The bits of its cc operand that a branch asks to be zero (R84). -/
def ccMask (four : Bool) : BitVec 3 := if four then 3#3 else 1#3

/-- The branch instruction of a sub-opcode and the tf bit (R81). -/
def branchInstr (four : Bool) (tf : BitVec 1) : CcNum → BitVec 16 → Instr :=
  if four then (if tf == 1#1 then .bc1any4t else .bc1any4f) else (if tf == 1#1 then .bc1any2t else .bc1any2f)

/-- An instruction by its format and the row it is of. -/
inductive InFormat : Instr → Prop where
  | fr3 {fmt : BitVec 5} {fn : BitVec 6} {mk : FReg → FReg → FReg → Instr} (row : Fr3Row fmt fn mk) (fd fs ft : FReg) :
      InFormat (mk fd fs ft)
  | fr2 {fmt : BitVec 5} {fn : BitVec 6} {mk : FReg → FReg → Instr} (row : Fr2Row fmt fn mk) (fd fs : FReg) :
      InFormat (mk fd fs)
  | fb (four : Bool) (tf : BitVec 1) (cc : CcNum) (offset : BitVec 16) : InFormat (branchInstr four tf cc offset)
  | fc (f : InstrFmt) (c : Cond) (cc : CcNum) (fs ft : FReg) : InFormat (cabsInstr f c cc fs ft)

theorem inFormat : ∀ i : Instr, InFormat i
  | .addrPs fd fs ft => .fr3 .addrPs fd fs ft
  | .mulrPs fd fs ft => .fr3 .mulrPs fd fs ft
  | .recip2S fd fs ft => .fr3 (.recip2 .s) fd fs ft
  | .recip2D fd fs ft => .fr3 (.recip2 .d) fd fs ft
  | .recip2Ps fd fs ft => .fr3 (.recip2 .ps) fd fs ft
  | .rsqrt2S fd fs ft => .fr3 (.rsqrt2 .s) fd fs ft
  | .rsqrt2D fd fs ft => .fr3 (.rsqrt2 .d) fd fs ft
  | .rsqrt2Ps fd fs ft => .fr3 (.rsqrt2 .ps) fd fs ft
  | .cvtPsPw fd fs => .fr2 .cvtPsPw fd fs
  | .cvtPwPs fd fs => .fr2 .cvtPwPs fd fs
  | .recip1S fd fs => .fr2 (.recip1 .s) fd fs
  | .recip1D fd fs => .fr2 (.recip1 .d) fd fs
  | .recip1Ps fd fs => .fr2 (.recip1 .ps) fd fs
  | .rsqrt1S fd fs => .fr2 (.rsqrt1 .s) fd fs
  | .rsqrt1D fd fs => .fr2 (.rsqrt1 .d) fd fs
  | .rsqrt1Ps fd fs => .fr2 (.rsqrt1 .ps) fd fs
  | .bc1any2f cc offset => .fb false 0#1 cc offset
  | .bc1any2t cc offset => .fb false 1#1 cc offset
  | .bc1any4f cc offset => .fb true 0#1 cc offset
  | .bc1any4t cc offset => .fb true 1#1 cc offset
  | .cabsFS cc fs ft => .fc .s .f cc fs ft
  | .cabsFD cc fs ft => .fc .d .f cc fs ft
  | .cabsFPs cc fs ft => .fc .ps .f cc fs ft
  | .cabsUnS cc fs ft => .fc .s .un cc fs ft
  | .cabsUnD cc fs ft => .fc .d .un cc fs ft
  | .cabsUnPs cc fs ft => .fc .ps .un cc fs ft
  | .cabsEqS cc fs ft => .fc .s .eq cc fs ft
  | .cabsEqD cc fs ft => .fc .d .eq cc fs ft
  | .cabsEqPs cc fs ft => .fc .ps .eq cc fs ft
  | .cabsUeqS cc fs ft => .fc .s .ueq cc fs ft
  | .cabsUeqD cc fs ft => .fc .d .ueq cc fs ft
  | .cabsUeqPs cc fs ft => .fc .ps .ueq cc fs ft
  | .cabsOltS cc fs ft => .fc .s .olt cc fs ft
  | .cabsOltD cc fs ft => .fc .d .olt cc fs ft
  | .cabsOltPs cc fs ft => .fc .ps .olt cc fs ft
  | .cabsUltS cc fs ft => .fc .s .ult cc fs ft
  | .cabsUltD cc fs ft => .fc .d .ult cc fs ft
  | .cabsUltPs cc fs ft => .fc .ps .ult cc fs ft
  | .cabsOleS cc fs ft => .fc .s .ole cc fs ft
  | .cabsOleD cc fs ft => .fc .d .ole cc fs ft
  | .cabsOlePs cc fs ft => .fc .ps .ole cc fs ft
  | .cabsUleS cc fs ft => .fc .s .ule cc fs ft
  | .cabsUleD cc fs ft => .fc .d .ule cc fs ft
  | .cabsUlePs cc fs ft => .fc .ps .ule cc fs ft
  | .cabsSfS cc fs ft => .fc .s .sf cc fs ft
  | .cabsSfD cc fs ft => .fc .d .sf cc fs ft
  | .cabsSfPs cc fs ft => .fc .ps .sf cc fs ft
  | .cabsNgleS cc fs ft => .fc .s .ngle cc fs ft
  | .cabsNgleD cc fs ft => .fc .d .ngle cc fs ft
  | .cabsNglePs cc fs ft => .fc .ps .ngle cc fs ft
  | .cabsSeqS cc fs ft => .fc .s .seq cc fs ft
  | .cabsSeqD cc fs ft => .fc .d .seq cc fs ft
  | .cabsSeqPs cc fs ft => .fc .ps .seq cc fs ft
  | .cabsNglS cc fs ft => .fc .s .ngl cc fs ft
  | .cabsNglD cc fs ft => .fc .d .ngl cc fs ft
  | .cabsNglPs cc fs ft => .fc .ps .ngl cc fs ft
  | .cabsLtS cc fs ft => .fc .s .lt cc fs ft
  | .cabsLtD cc fs ft => .fc .d .lt cc fs ft
  | .cabsLtPs cc fs ft => .fc .ps .lt cc fs ft
  | .cabsNgeS cc fs ft => .fc .s .nge cc fs ft
  | .cabsNgeD cc fs ft => .fc .d .nge cc fs ft
  | .cabsNgePs cc fs ft => .fc .ps .nge cc fs ft
  | .cabsLeS cc fs ft => .fc .s .le cc fs ft
  | .cabsLeD cc fs ft => .fc .d .le cc fs ft
  | .cabsLePs cc fs ft => .fc .ps .le cc fs ft
  | .cabsNgtS cc fs ft => .fc .s .ngt cc fs ft
  | .cabsNgtD cc fs ft => .fc .d .ngt cc fs ft
  | .cabsNgtPs cc fs ft => .fc .ps .ngt cc fs ft

/-! The encoder and the alignment by format -/

theorem Fr3Row.encode {fmt : BitVec 5} {fn : BitVec 6} {mk : FReg → FReg → FReg → Instr} (row : Fr3Row fmt fn mk)
    (fd fs ft : FReg) : encode (mk fd fs ft) = encodeFr3 fmt ft fs fd fn := by
  cases row with
  | addrPs | mulrPs => rfl
  | recip2 f | rsqrt2 f => cases f <;> rfl

theorem Fr3Row.wellFormed {fmt : BitVec 5} {fn : BitVec 6} {mk : FReg → FReg → FReg → Instr} (row : Fr3Row fmt fn mk)
    (fd fs ft : FReg) : (mk fd fs ft).wellFormed = true := by
  cases row with
  | addrPs | mulrPs => rfl
  | recip2 f | rsqrt2 f => cases f <;> rfl

theorem Fr2Row.encode {fmt : BitVec 5} {fn : BitVec 6} {mk : FReg → FReg → Instr} (row : Fr2Row fmt fn mk)
    (fd fs : FReg) : encode (mk fd fs) = encodeFr3 fmt 0#5 fs fd fn := by
  cases row with
  | cvtPsPw | cvtPwPs => rfl
  | recip1 f | rsqrt1 f => cases f <;> rfl

theorem Fr2Row.wellFormed {fmt : BitVec 5} {fn : BitVec 6} {mk : FReg → FReg → Instr} (row : Fr2Row fmt fn mk)
    (fd fs : FReg) : (mk fd fs).wellFormed = true := by
  cases row with
  | cvtPsPw | cvtPwPs => rfl
  | recip1 f | rsqrt1 f => cases f <;> rfl

/-- The tf bit is one of two. -/
theorem bit_cases (tf : BitVec 1) : tf = 0#1 ∨ tf = 1#1 := by
  revert tf
  decide

theorem encode_branchInstr (four : Bool) (tf : BitVec 1) (cc : CcNum) (offset : BitVec 16) :
    encode (branchInstr four tf cc offset) = encodeFb (branchCode four) cc tf offset := by
  obtain rfl | rfl := bit_cases tf <;> cases four <;> rfl

theorem wellFormed_branchInstr (four : Bool) (tf : BitVec 1) (cc : CcNum) (offset : BitVec 16) :
    (branchInstr four tf cc offset).wellFormed = (cc &&& ccMask four == 0#3) := by
  obtain rfl | rfl := bit_cases tf <;> cases four <;> rfl

theorem encode_cabsInstr (f : InstrFmt) (c : Cond) (cc : CcNum) (fs ft : FReg) :
    encode (cabsInstr f c cc fs ft) = encodeFc f.code ft fs cc c.bits := by
  cases f <;> cases c <;> rfl

theorem wellFormed_cabsInstr (f : InstrFmt) (c : Cond) (cc : CcNum) (fs ft : FReg) :
    (cabsInstr f c cc fs ft).wellFormed = !(f == .ps && !cc.alignedTwo) := by
  cases f <;> cases c <;> simp [cabsInstr, Instr.wellFormed]

@[simp] theorem ofBits_bits (c : Cond) : Cond.ofBits c.bits = c := by
  cases c <;> rfl

@[simp] theorem bits_ofBits (b : BitVec 4) : (Cond.ofBits b).bits = b := by
  revert b
  decide

/-! A word as the sum of its fields -/

theorem isCop1_iff (w : Word) : isCop1 w = true ↔ w.extractLsb' 26 6 = cop1 := by
  simp [isCop1]

theorem encodeFr3_fields {w : Word} (h : isCop1 w = true) :
    encodeFr3 (w.extractLsb' 21 5) (w.extractLsb' 16 5) (w.extractLsb' 11 5) (w.extractLsb' 6 5)
      (w.extractLsb' 0 6) = w := by
  rw [encodeFr3, ← (isCop1_iff w).mp h]
  iterate 5 rw [BitVec.extractLsb'_append_extractLsb'_eq_extractLsb' (by rfl)]
  exact BitVec.extractLsb'_eq_self

theorem encodeFb_fields {w : Word} (h : isCop1 w = true) (hnd : w.extractLsb' 17 1 = 0#1) :
    encodeFb (w.extractLsb' 21 5) (w.extractLsb' 18 3) (w.extractLsb' 16 1) (w.extractLsb' 0 16) = w := by
  rw [encodeFb, ← (isCop1_iff w).mp h, ← hnd]
  iterate 5 rw [BitVec.extractLsb'_append_extractLsb'_eq_extractLsb' (by rfl)]
  exact BitVec.extractLsb'_eq_self

theorem encodeFc_fields {w : Word} (h : isCop1 w = true) (hmark : w.extractLsb' 4 4 = 0b0111#4) :
    encodeFc (w.extractLsb' 21 5) (w.extractLsb' 16 5) (w.extractLsb' 11 5) (w.extractLsb' 8 3)
      (w.extractLsb' 0 4) = w := by
  rw [encodeFc, ← (isCop1_iff w).mp h, ← hmark]
  iterate 6 rw [BitVec.extractLsb'_append_extractLsb'_eq_extractLsb' (by rfl)]
  exact BitVec.extractLsb'_eq_self

/-- A field within a field. -/
theorem extractLsb'_extractLsb'_of_le (w : Word) {a b c d : Nat} (h : c + d ≤ b) :
    (w.extractLsb' a b).extractLsb' c d = w.extractLsb' (a + c) d := by
  apply BitVec.eq_of_getLsbD_eq
  intro k hk
  simp only [BitVec.getLsbD_extractLsb', Nat.add_assoc, hk, show c + k < b by omega, decide_true, Bool.true_and]

/-- The cells 01 and 11 above the condition of a compare are its bits 7..4 (R74). -/
theorem mark_iff (w : Word) :
    w.extractLsb' 4 4 = 0b0111#4 ↔ w.extractLsb' 6 2 = 0b01#2 ∧ w.extractLsb' 4 2 = 0b11#2 := by
  have hcells : w.extractLsb' 6 2 ++ w.extractLsb' 4 2 = w.extractLsb' 4 4 :=
    BitVec.extractLsb'_append_extractLsb'_eq_extractLsb' rfl
  rw [← hcells]
  generalize w.extractLsb' 6 2 = x
  generalize w.extractLsb' 4 2 = y
  revert x y
  decide

/-- Bits 5..4 are the upper bits of the function cell (R77). -/
theorem class_eq (w : Word) : w.extractLsb' 4 2 = (w.extractLsb' 0 6).extractLsb' 4 2 :=
  (extractLsb'_extractLsb'_of_le w (a := 0) (b := 6) (c := 4) (d := 2) (by decide)).symm

/-! The decoder by format -/

section

variable {w : Word} (hmajor : isCop1 w = true)
include hmajor

theorem decode_of_branchCode {four : Bool} (hsub : w.extractLsb' 21 5 = branchCode four) :
    decode w = decodeBranch four w := by
  cases four <;> simp [decode, hmajor, hsub, branchCode]

theorem decode_of_code {f : InstrFmt} (hfmt : w.extractLsb' 21 5 = f.code) : decode w = decodeFmt f w := by
  cases f <;> simp [decode, hmajor, hfmt, InstrFmt.code]

theorem decode_of_pwCode (hfmt : w.extractLsb' 21 5 = pwCode) : decode w = decodePw w := by
  simp [decode, hmajor, hfmt, InstrFmt.code, pwCode]

theorem decode_fr3 {fmt : BitVec 5} {fn : BitVec 6} {mk : FReg → FReg → FReg → Instr} (row : Fr3Row fmt fn mk)
    (hfmt : w.extractLsb' 21 5 = fmt) (hfn : w.extractLsb' 0 6 = fn) :
    decode w = .instr (mk (w.extractLsb' 6 5) (w.extractLsb' 11 5) (w.extractLsb' 16 5)) := by
  cases row with
  | addrPs | mulrPs | recip2 f | rsqrt2 f =>
    rw [decode_of_code hmajor hfmt]
    simp [decodeFmt, class_eq, hfn]

theorem decode_fr2 {fmt : BitVec 5} {fn : BitVec 6} {mk : FReg → FReg → Instr} (row : Fr2Row fmt fn mk)
    (hfmt : w.extractLsb' 21 5 = fmt) (hfn : w.extractLsb' 0 6 = fn) (hft : w.extractLsb' 16 5 = 0#5) :
    decode w = .instr (mk (w.extractLsb' 6 5) (w.extractLsb' 11 5)) := by
  cases row with
  | cvtPsPw =>
    rw [decode_of_pwCode hmajor hfmt]
    simp [decodePw, hfn, hft]
  | cvtPwPs | recip1 f | rsqrt1 f =>
    rw [decode_of_code hmajor hfmt]
    simp [decodeFmt, class_eq, hfn, hft]

theorem decode_fb {four : Bool} (hsub : w.extractLsb' 21 5 = branchCode four) (hnd : w.extractLsb' 17 1 = 0#1) :
    decode w = if w.extractLsb' 18 3 &&& ccMask four == 0#3 then
        .instr (branchInstr four (w.extractLsb' 16 1) (w.extractLsb' 18 3) (w.extractLsb' 0 16))
      else .reject .ccAlignment := by
  rw [decode_of_branchCode hmajor hsub]
  obtain htf | htf := bit_cases (w.extractLsb' 16 1) <;>
    cases four <;> simp [decodeBranch, hnd, htf, CcNum.alignedTwo, CcNum.alignedFour, ccMask, branchInstr]

theorem decode_fb_nd {four : Bool} (hsub : w.extractLsb' 21 5 = branchCode four) (hnd : w.extractLsb' 17 1 = 1#1) :
    decode w = .reject .reservedNd := by
  rw [decode_of_branchCode hmajor hsub]
  simp [decodeBranch, hnd]

theorem decode_fc {f : InstrFmt} (hfmt : w.extractLsb' 21 5 = f.code) (hmark : w.extractLsb' 4 4 = 0b0111#4) :
    decode w = if f == .ps && !CcNum.alignedTwo (w.extractLsb' 8 3) then .reject .ccAlignment
      else .instr (cabsInstr f (Cond.ofBits (w.extractLsb' 0 4)) (w.extractLsb' 8 3) (w.extractLsb' 11 5)
        (w.extractLsb' 16 5)) := by
  obtain ⟨hhigh, hlow⟩ := (mark_iff w).mp hmark
  rw [decode_of_code hmajor hfmt]
  simp [decodeFmt, decodeCompare, hhigh, hlow]

end

/-! The words of an instruction -/

/-- The fields of a COP1 word are those of a row, and give the operands of the instruction (R80, R81). -/
inductive Reads (w : Word) : Instr → Prop where
  | fr3 {fmt : BitVec 5} {fn : BitVec 6} {mk : FReg → FReg → FReg → Instr} (row : Fr3Row fmt fn mk)
      (hfmt : w.extractLsb' 21 5 = fmt) (hfn : w.extractLsb' 0 6 = fn) :
      Reads w (mk (w.extractLsb' 6 5) (w.extractLsb' 11 5) (w.extractLsb' 16 5))
  | fr2 {fmt : BitVec 5} {fn : BitVec 6} {mk : FReg → FReg → Instr} (row : Fr2Row fmt fn mk)
      (hfmt : w.extractLsb' 21 5 = fmt) (hfn : w.extractLsb' 0 6 = fn) (hft : w.extractLsb' 16 5 = 0#5) :
      Reads w (mk (w.extractLsb' 6 5) (w.extractLsb' 11 5))
  | fb (four : Bool) (hsub : w.extractLsb' 21 5 = branchCode four) (hnd : w.extractLsb' 17 1 = 0#1)
      (hcc : w.extractLsb' 18 3 &&& ccMask four = 0#3) :
      Reads w (branchInstr four (w.extractLsb' 16 1) (w.extractLsb' 18 3) (w.extractLsb' 0 16))
  | fc (f : InstrFmt) (hfmt : w.extractLsb' 21 5 = f.code) (hmark : w.extractLsb' 4 4 = 0b0111#4)
      (hcc : (f == .ps && !CcNum.alignedTwo (w.extractLsb' 8 3)) = false) :
      Reads w (cabsInstr f (Cond.ofBits (w.extractLsb' 0 4)) (w.extractLsb' 8 3) (w.extractLsb' 11 5)
        (w.extractLsb' 16 5))

theorem Reads.decode {w : Word} {i : Instr} (hmajor : isCop1 w = true) (h : Reads w i) : decode w = .instr i := by
  cases h with
  | fr3 row hfmt hfn => exact decode_fr3 hmajor row hfmt hfn
  | fr2 row hfmt hfn hft => exact decode_fr2 hmajor row hfmt hfn hft
  | fb four hsub hnd hcc => rw [decode_fb hmajor hsub hnd, hcc]; rfl
  | fc f hfmt hmark hcc => rw [decode_fc hmajor hfmt hmark, hcc]; rfl

theorem reads_of_decodeBranch {w : Word} {i : Instr} {four : Bool} (hsub : w.extractLsb' 21 5 = branchCode four)
    (hmajor : isCop1 w = true) (h : decode w = .instr i) : Reads w i := by
  obtain hnd | hnd := bit_cases (w.extractLsb' 17 1)
  · rw [decode_fb hmajor hsub hnd] at h
    split at h
    · next hcc =>
      cases h
      exact .fb four hsub hnd (by simpa using hcc)
    · cases h
  · rw [decode_fb_nd hmajor hsub hnd] at h
    cases h

theorem reads_of_decodeCompare {w : Word} {i : Instr} {f : InstrFmt} (hfmt : w.extractLsb' 21 5 = f.code)
    (hclass : w.extractLsb' 4 2 = 0b11#2) (h : decodeCompare f w = .instr i) : Reads w i := by
  simp only [decodeCompare] at h
  split_ifs at h with hhigh hcc
  cases h
  exact .fc f hfmt ((mark_iff w).mpr ⟨by simpa using hhigh, hclass⟩) (by simpa using hcc)

theorem reads_of_decodeFmt {w : Word} {i : Instr} {f : InstrFmt} (hfmt : w.extractLsb' 21 5 = f.code)
    (h : decodeFmt f w = .instr i) : Reads w i := by
  simp only [decodeFmt, Bool.and_eq_true, beq_iff_eq] at h
  split_ifs at h with hclass hrecip2 hrsqrt2 hrecip1 hrsqrt1 haddr hmulr hcvt
  · exact reads_of_decodeCompare hfmt hclass h
  all_goals cases h
  · exact .fr3 (.recip2 f) hfmt hrecip2
  · exact .fr3 (.rsqrt2 f) hfmt hrsqrt2
  · exact .fr2 (.recip1 f) hfmt hrecip1.1 hrecip1.2
  · exact .fr2 (.rsqrt1 f) hfmt hrsqrt1.1 hrsqrt1.2
  · obtain ⟨hfn, rfl⟩ := haddr
    exact .fr3 .addrPs hfmt hfn
  · obtain ⟨hfn, rfl⟩ := hmulr
    exact .fr3 .mulrPs hfmt hfn
  · obtain ⟨⟨hfn, rfl⟩, hft⟩ := hcvt
    exact .fr2 .cvtPwPs hfmt hfn hft

theorem reads_of_decodePw {w : Word} {i : Instr} (hfmt : w.extractLsb' 21 5 = pwCode) (h : decodePw w = .instr i) :
    Reads w i := by
  simp only [decodePw, Bool.and_eq_true, beq_iff_eq] at h
  split at h
  · next hrow =>
    obtain ⟨hfn, hft⟩ := hrow
    cases h
    exact .fr2 .cvtPsPw hfmt hfn hft
  · cases h

theorem decode_eq_instr_iff (w : Word) (i : Instr) : decode w = .instr i ↔ isCop1 w = true ∧ Reads w i := by
  refine ⟨fun h => ?_, fun ⟨hmajor, hr⟩ => hr.decode hmajor⟩
  have h0 := h
  simp only [Sys2Proof.decode, beq_iff_eq] at h
  split_ifs at h with hmajor htwo hfour hs hd hps hpw
  all_goals refine ⟨by simpa using hmajor, ?_⟩
  · exact reads_of_decodeBranch (four := false) htwo (by simpa using hmajor) h0
  · exact reads_of_decodeBranch (four := true) hfour (by simpa using hmajor) h0
  · exact reads_of_decodeFmt hs h
  · exact reads_of_decodeFmt hd h
  · exact reads_of_decodeFmt hps h
  · exact reads_of_decodePw hpw h

theorem Reads.wellFormed {w : Word} {i : Instr} (h : Reads w i) : i.wellFormed = true := by
  cases h with
  | fr3 row => exact row.wellFormed _ _ _
  | fr2 row => exact row.wellFormed _ _
  | fb four hsub hnd hcc => rw [wellFormed_branchInstr, hcc]; rfl
  | fc f hfmt hmark hcc => rw [wellFormed_cabsInstr, hcc]; rfl

theorem Reads.encode {w : Word} {i : Instr} (hmajor : isCop1 w = true) (h : Reads w i) : encode i = w := by
  cases h with
  | fr3 row hfmt hfn => rw [row.encode, ← hfmt, ← hfn, encodeFr3_fields hmajor]
  | fr2 row hfmt hfn hft => rw [row.encode, ← hfmt, ← hfn, ← hft, encodeFr3_fields hmajor]
  | fb four hsub hnd => rw [encode_branchInstr, ← hsub, encodeFb_fields hmajor hnd]
  | fc f hfmt hmark => rw [encode_cabsInstr, bits_ofBits, ← hfmt, encodeFc_fields hmajor hmark]

theorem isCop1_encode (i : Instr) : isCop1 (encode i) = true := by
  cases inFormat i with
  | fr3 row => rw [row.encode, isCop1_encodeFr3]
  | fr2 row => rw [row.encode, isCop1_encodeFr3]
  | fb => rw [encode_branchInstr, isCop1_encodeFb]
  | fc => rw [encode_cabsInstr, isCop1_encodeFc]

theorem reads_encodeFr3 {fmt : BitVec 5} {fn : BitVec 6} {mk : FReg → FReg → FReg → Instr} (row : Fr3Row fmt fn mk)
    (fd fs ft : FReg) : Reads (encodeFr3 fmt ft fs fd fn) (mk fd fs ft) := by
  have h := Reads.fr3 (w := encodeFr3 fmt ft fs fd fn) row (by simp) (by simp)
  simpa using h

theorem reads_encodeFr3_zero {fmt : BitVec 5} {fn : BitVec 6} {mk : FReg → FReg → Instr} (row : Fr2Row fmt fn mk)
    (fd fs : FReg) : Reads (encodeFr3 fmt 0#5 fs fd fn) (mk fd fs) := by
  have h := Reads.fr2 (w := encodeFr3 fmt 0#5 fs fd fn) row (by simp) (by simp) (by simp)
  simpa using h

theorem reads_encodeFb {four : Bool} {cc : CcNum} (hcc : cc &&& ccMask four = 0#3) (tf : BitVec 1)
    (offset : BitVec 16) : Reads (encodeFb (branchCode four) cc tf offset) (branchInstr four tf cc offset) := by
  have h := Reads.fb (w := encodeFb (branchCode four) cc tf offset) four (by simp) (by simp) (by simpa using hcc)
  simpa using h

theorem reads_encodeFc {f : InstrFmt} {cc : CcNum} (hcc : (f == .ps && !cc.alignedTwo) = false) (c : Cond)
    (fs ft : FReg) : Reads (encodeFc f.code ft fs cc c.bits) (cabsInstr f c cc fs ft) := by
  have h := Reads.fc (w := encodeFc f.code ft fs cc c.bits) f (by simp) ((mark_iff _).mpr (by simp))
    (by simpa using hcc)
  simpa using h

theorem reads_encode {i : Instr} (h : i.wellFormed = true) : Reads (encode i) i := by
  cases inFormat i with
  | fr3 row fd fs ft => exact row.encode fd fs ft ▸ reads_encodeFr3 row fd fs ft
  | fr2 row fd fs => exact row.encode fd fs ▸ reads_encodeFr3_zero row fd fs
  | fb four tf cc offset =>
    rw [wellFormed_branchInstr, beq_iff_eq] at h
    exact encode_branchInstr four tf cc offset ▸ reads_encodeFb h tf offset
  | fc f c cc fs ft =>
    rw [wellFormed_cabsInstr, Bool.not_eq_true'] at h
    exact encode_cabsInstr f c cc fs ft ▸ reads_encodeFc h c fs ft

/-- Settles O1: the fields of an instruction's word are those of its row. -/
theorem decodeEncodeRoundTrip : Obligations.DecodeEncodeRoundTrip := fun i h =>
  (reads_encode h).decode (isCop1_encode i)

/-- Settles O2: a word read as an instruction is the sum of the fields it was read by. -/
theorem encodeDecodeRoundTrip : Obligations.EncodeDecodeRoundTrip := by
  intro w i h
  obtain ⟨hmajor, hreads⟩ := (decode_eq_instr_iff w i).mp h
  exact ⟨hreads.wellFormed, hreads.encode hmajor⟩

end Sys2Proof.Machine
end

section
/-! The decoder against the mask and match words of R82. Each format has one mask; a word fits a row of it just when it
has the row's fields. -/

namespace Sys2Proof.Machine

/-- The mask of a branch row (R82): the fixed cells and the bits of cc that must be zero. -/
def fbMask (four : Bool) : Word := if four then 0xFFEF0000#32 else 0xFFE70000#32

/-! The fields of a masked word -/

/-- A field under a mask, read from the masked word. -/
theorem field_of_masked {w m x : Word} (h : w &&& m = x) (a b : Nat) :
    w.extractLsb' a b &&& m.extractLsb' a b = x.extractLsb' a b := by
  rw [← h, BitVec.extractLsb'_and]

/-- A field that the mask covers, read from the masked word. -/
theorem field_of_covered {w m x : Word} (h : w &&& m = x) {a b : Nat} (hm : m.extractLsb' a b = BitVec.allOnes b) :
    w.extractLsb' a b = x.extractLsb' a b := by
  rw [← h, extractLsb'_and_of_allOnes hm]

theorem extractLsb'_and_of_zero {w m : Word} {a b : Nat} (hm : m.extractLsb' a b = 0#b) :
    (w &&& m).extractLsb' a b = 0#b := by
  rw [BitVec.extractLsb'_and, hm, BitVec.and_zero]

/-- Every row fixes the major opcode (R75). -/
theorem isCop1_and {w m : Word} (hm : m.extractLsb' 26 6 = BitVec.allOnes 6) : isCop1 (w &&& m) = isCop1 w := by
  simp only [isCop1, extractLsb'_and_of_allOnes hm]

theorem fr3_masked_iff (w : Word) (fmt : BitVec 5) (fn : BitVec 6) :
    w &&& 0xFFE0003F#32 = encodeFr3 fmt 0#5 0#5 0#5 fn ↔
      isCop1 w = true ∧ w.extractLsb' 21 5 = fmt ∧ w.extractLsb' 0 6 = fn := by
  refine ⟨fun h => ⟨(isCop1_iff w).mpr ?_, ?_, ?_⟩, fun ⟨hmajor, hfmt, hfn⟩ => ?_⟩
  · simpa using field_of_covered h (a := 26) (b := 6) (by decide)
  · simpa using field_of_covered h (a := 21) (b := 5) (by decide)
  · simpa using field_of_covered h (a := 0) (b := 6) (by decide)
  · rw [← encodeFr3_fields ((isCop1_and (by decide)).trans hmajor)]
    simp (disch := decide) only [extractLsb'_and_of_allOnes, extractLsb'_and_of_zero, hfmt, hfn]

theorem fr2_masked_iff (w : Word) (fmt : BitVec 5) (fn : BitVec 6) :
    w &&& 0xFFFF003F#32 = encodeFr3 fmt 0#5 0#5 0#5 fn ↔
      isCop1 w = true ∧ w.extractLsb' 21 5 = fmt ∧ w.extractLsb' 0 6 = fn ∧ w.extractLsb' 16 5 = 0#5 := by
  refine ⟨fun h => ⟨(isCop1_iff w).mpr ?_, ?_, ?_, ?_⟩, fun ⟨hmajor, hfmt, hfn, hft⟩ => ?_⟩
  · simpa using field_of_covered h (a := 26) (b := 6) (by decide)
  · simpa using field_of_covered h (a := 21) (b := 5) (by decide)
  · simpa using field_of_covered h (a := 0) (b := 6) (by decide)
  · simpa using field_of_covered h (a := 16) (b := 5) (by decide)
  · rw [← encodeFr3_fields ((isCop1_and (by decide)).trans hmajor)]
    simp (disch := decide) only [extractLsb'_and_of_allOnes, extractLsb'_and_of_zero, hfmt, hfn, hft]

/-- The cells of a branch row's mask: all but the offset and the free bits of cc. -/
theorem fbMask_cells (four : Bool) :
    (fbMask four).extractLsb' 26 6 = BitVec.allOnes 6 ∧ (fbMask four).extractLsb' 21 5 = BitVec.allOnes 5 ∧
      (fbMask four).extractLsb' 18 3 = ccMask four ∧ (fbMask four).extractLsb' 17 1 = BitVec.allOnes 1 ∧
      (fbMask four).extractLsb' 16 1 = BitVec.allOnes 1 ∧ (fbMask four).extractLsb' 0 16 = 0#16 := by
  cases four <;> decide

theorem fb_masked_iff (w : Word) (four : Bool) (sub : BitVec 5) (tf : BitVec 1) :
    w &&& fbMask four = encodeFb sub 0#3 tf 0#16 ↔
      isCop1 w = true ∧ w.extractLsb' 21 5 = sub ∧ w.extractLsb' 18 3 &&& ccMask four = 0#3 ∧
        w.extractLsb' 17 1 = 0#1 ∧ w.extractLsb' 16 1 = tf := by
  obtain ⟨mmajor, msub, mcc, mnd, mtf, moffset⟩ := fbMask_cells four
  refine ⟨fun h => ⟨(isCop1_iff w).mpr ?_, ?_, ?_, ?_, ?_⟩, fun ⟨hmajor, hsub, hcc, hnd, htf⟩ => ?_⟩
  · simpa using field_of_covered h mmajor
  · simpa using field_of_covered h msub
  · simpa [mcc] using field_of_masked h 18 3
  · simpa using field_of_covered h mnd
  · simpa using field_of_covered h mtf
  · rw [← encodeFb_fields ((isCop1_and mmajor).trans hmajor) ((extractLsb'_and_of_allOnes mnd).trans hnd),
      extractLsb'_and_of_allOnes msub, extractLsb'_and_of_allOnes mtf, extractLsb'_and_of_zero moffset,
      BitVec.extractLsb'_and, mcc, hsub, hcc, htf]

theorem fc_masked_iff (w : Word) (fmt : BitVec 5) (cond : BitVec 4) :
    w &&& 0xFFE000FF#32 = encodeFc fmt 0#5 0#5 0#3 cond ↔
      isCop1 w = true ∧ w.extractLsb' 21 5 = fmt ∧ w.extractLsb' 4 4 = 0b0111#4 ∧ w.extractLsb' 0 4 = cond := by
  refine ⟨fun h => ⟨(isCop1_iff w).mpr ?_, ?_, (mark_iff w).mpr ⟨?_, ?_⟩, ?_⟩, fun ⟨hmajor, hfmt, hmark, hcond⟩ => ?_⟩
  · simpa using field_of_covered h (a := 26) (b := 6) (by decide)
  · simpa using field_of_covered h (a := 21) (b := 5) (by decide)
  · simpa using field_of_covered h (a := 6) (b := 2) (by decide)
  · simpa using field_of_covered h (a := 4) (b := 2) (by decide)
  · simpa using field_of_covered h (a := 0) (b := 4) (by decide)
  · rw [← encodeFc_fields ((isCop1_and (by decide)).trans hmajor)
      ((extractLsb'_and_of_allOnes (by decide)).trans hmark)]
    simp (disch := decide) only [extractLsb'_and_of_allOnes, extractLsb'_and_of_zero, hfmt, hcond]

/-! The rows by format -/

theorem Fr3Row.fits_iff {fmt : BitVec 5} {fn : BitVec 6} {mk : FReg → FReg → FReg → Instr} (row : Fr3Row fmt fn mk)
    (fd fs ft : FReg) (w : Word) : (mk fd fs ft).mnemonic.fits w = true ↔
      isCop1 w = true ∧ w.extractLsb' 21 5 = fmt ∧ w.extractLsb' 0 6 = fn := by
  have hfits : (mk fd fs ft).mnemonic.fits w = (w &&& 0xFFE0003F#32 == encodeFr3 fmt 0#5 0#5 0#5 fn) := by
    cases row with
    | addrPs | mulrPs => rfl
    | recip2 f | rsqrt2 f => cases f <;> rfl
  rw [hfits, beq_iff_eq, fr3_masked_iff]

theorem Fr2Row.fits_iff {fmt : BitVec 5} {fn : BitVec 6} {mk : FReg → FReg → Instr} (row : Fr2Row fmt fn mk)
    (fd fs : FReg) (w : Word) : (mk fd fs).mnemonic.fits w = true ↔
      isCop1 w = true ∧ w.extractLsb' 21 5 = fmt ∧ w.extractLsb' 0 6 = fn ∧ w.extractLsb' 16 5 = 0#5 := by
  have hfits : (mk fd fs).mnemonic.fits w = (w &&& 0xFFFF003F#32 == encodeFr3 fmt 0#5 0#5 0#5 fn) := by
    cases row with
    | cvtPsPw | cvtPwPs => rfl
    | recip1 f | rsqrt1 f => cases f <;> rfl
  rw [hfits, beq_iff_eq, fr2_masked_iff]

theorem branchInstr_fits_iff (four : Bool) (tf : BitVec 1) (cc : CcNum) (offset : BitVec 16) (w : Word) :
    (branchInstr four tf cc offset).mnemonic.fits w = true ↔
      isCop1 w = true ∧ w.extractLsb' 21 5 = branchCode four ∧ w.extractLsb' 18 3 &&& ccMask four = 0#3 ∧
        w.extractLsb' 17 1 = 0#1 ∧ w.extractLsb' 16 1 = tf := by
  have hfits : (branchInstr four tf cc offset).mnemonic.fits w =
      (w &&& fbMask four == encodeFb (branchCode four) 0#3 tf 0#16) := by
    obtain rfl | rfl := bit_cases tf <;> cases four <;> rfl
  rw [hfits, beq_iff_eq, fb_masked_iff]

theorem cabsInstr_fits_iff (f : InstrFmt) (c : Cond) (cc : CcNum) (fs ft : FReg) (w : Word) :
    (cabsInstr f c cc fs ft).mnemonic.fits w = true ↔ isCop1 w = true ∧ w.extractLsb' 21 5 = f.code ∧
      w.extractLsb' 4 4 = 0b0111#4 ∧ w.extractLsb' 0 4 = c.bits := by
  have hfits : (cabsInstr f c cc fs ft).mnemonic.fits w =
      (w &&& 0xFFE000FF#32 == encodeFc f.code 0#5 0#5 0#3 c.bits) := by
    cases f <;> cases c <;> rfl
  rw [hfits, beq_iff_eq, fc_masked_iff]

theorem Fr3Row.mnemonic_eq {fmt : BitVec 5} {fn : BitVec 6} {mk : FReg → FReg → FReg → Instr} (row : Fr3Row fmt fn mk)
    (fd fs ft fd' fs' ft' : FReg) : (mk fd fs ft).mnemonic = (mk fd' fs' ft').mnemonic := by
  cases row with
  | addrPs | mulrPs => rfl
  | recip2 f | rsqrt2 f => cases f <;> rfl

theorem Fr2Row.mnemonic_eq {fmt : BitVec 5} {fn : BitVec 6} {mk : FReg → FReg → Instr} (row : Fr2Row fmt fn mk)
    (fd fs fd' fs' : FReg) : (mk fd fs).mnemonic = (mk fd' fs').mnemonic := by
  cases row with
  | cvtPsPw | cvtPwPs => rfl
  | recip1 f | rsqrt1 f => cases f <;> rfl

theorem mnemonic_branchInstr (four : Bool) (tf : BitVec 1) (cc cc' : CcNum) (offset offset' : BitVec 16) :
    (branchInstr four tf cc offset).mnemonic = (branchInstr four tf cc' offset').mnemonic := by
  obtain rfl | rfl := bit_cases tf <;> cases four <;> rfl

theorem mnemonic_cabsInstr (f : InstrFmt) (c : Cond) (cc cc' : CcNum) (fs ft fs' ft' : FReg) :
    (cabsInstr f c cc fs ft).mnemonic = (cabsInstr f c cc' fs' ft').mnemonic := by
  cases f <;> cases c <;> rfl

/-- The match word of a row is itself a word of the row. -/
theorem decode_matchWord (m : Mnemonic) : ∃ i, decode m.matchWord = .instr i ∧ i.mnemonic = m := by
  cases m <;> exact ⟨_, rfl, rfl⟩

/-- A word read as an instruction fits the instruction's row. -/
theorem Reads.fits {w : Word} {i : Instr} (hmajor : isCop1 w = true) (h : Reads w i) : i.mnemonic.fits w = true := by
  cases h with
  | fr3 row hfmt hfn => exact (row.fits_iff _ _ _ w).mpr ⟨hmajor, hfmt, hfn⟩
  | fr2 row hfmt hfn hft => exact (row.fits_iff _ _ w).mpr ⟨hmajor, hfmt, hfn, hft⟩
  | fb four hsub hnd hcc => exact (branchInstr_fits_iff _ _ _ _ w).mpr ⟨hmajor, hsub, hcc, hnd, rfl⟩
  | fc f hfmt hmark hcc => exact (cabsInstr_fits_iff _ _ _ _ _ w).mpr ⟨hmajor, hfmt, hmark, (bits_ofBits _).symm⟩

/-- The cc of a paired compare is misaligned just when bit 8 is set (R85). -/
theorem alignedTwo_extractLsb' (w : Word) (k : Nat) : CcNum.alignedTwo (w.extractLsb' k 3) = !w.getLsbD k := by
  have hcc : ∀ cc : CcNum, cc.alignedTwo = !cc.getLsbD 0 := by decide
  simp [hcc]

/-- A word that fits an instruction's row is read as an instruction of that row, but for a paired compare whose cc is
odd. -/
theorem decode_of_fits {w : Word} {i : Instr} (h : i.mnemonic.fits w = true) :
    (∃ j, decode w = .instr j ∧ j.mnemonic = i.mnemonic) ∨
      (decode w = .reject .ccAlignment ∧ w.extractLsb' 21 5 = 0b10110#5 ∧ w.extractLsb' 4 4 = 0b0111#4 ∧
        w.getLsbD 8 = true) := by
  cases inFormat i with
  | fr3 row fd fs ft =>
    obtain ⟨hmajor, hfmt, hfn⟩ := (row.fits_iff fd fs ft w).mp h
    exact .inl ⟨_, decode_fr3 hmajor row hfmt hfn, row.mnemonic_eq ..⟩
  | fr2 row fd fs =>
    obtain ⟨hmajor, hfmt, hfn, hft⟩ := (row.fits_iff fd fs w).mp h
    exact .inl ⟨_, decode_fr2 hmajor row hfmt hfn hft, row.mnemonic_eq ..⟩
  | fb four tf cc offset =>
    obtain ⟨hmajor, hsub, hcc, hnd, rfl⟩ := (branchInstr_fits_iff four tf cc offset w).mp h
    exact .inl ⟨_, (Reads.fb four hsub hnd hcc).decode hmajor, mnemonic_branchInstr ..⟩
  | fc f c cc fs ft =>
    obtain ⟨hmajor, hfmt, hmark, hcond⟩ := (cabsInstr_fits_iff f c cc fs ft w).mp h
    cases hcc : f == .ps && !CcNum.alignedTwo (w.extractLsb' 8 3) with
    | false =>
      refine .inl ⟨_, (Reads.fc f hfmt hmark hcc).decode hmajor, ?_⟩
      rw [hcond, ofBits_bits]
      exact mnemonic_cabsInstr ..
    | true =>
      have hdecode := decode_fc hmajor hfmt hmark
      rw [hcc] at hdecode
      simp only [alignedTwo_extractLsb', Bool.not_not, Bool.and_eq_true, beq_iff_eq] at hcc
      obtain ⟨rfl, hodd⟩ := hcc
      exact .inr ⟨hdecode, hfmt, hmark, hodd⟩

/-- Settles O3: both directions hold row by row, and every row is that of its match word. -/
theorem decoderFollowsTheMaskTable : Obligations.DecoderFollowsTheMaskTable := by
  intro w m
  constructor
  case left =>
    obtain ⟨i, -, rfl⟩ := decode_matchWord m
    exact decode_of_fits
  case right =>
    rintro i hi rfl
    obtain ⟨hmajor, hreads⟩ := (decode_eq_instr_iff w i).mp hi
    exact hreads.fits hmajor

end Sys2Proof.Machine
end

section
/-! The words that are refused (R83 to R88), the offset of a branch (R79), and the table of the conditions (R78). -/

namespace Sys2Proof.Machine

/-! A step at a rejected word -/

theorem step_of_fetches {s : State} {w : Word} (h : Fetches s w) : step s = runWord w s := by
  obtain ⟨hf, ha, hw⟩ := h
  simp [step, cycle, hf, ha, hw]

/-- A rejected word is refused unless coprocessor 1 is unusable for it (R130 step 3). -/
theorem step_rejected {s : State} {w : Word} {r : Reject} (h : Fetches s w) (hd : decode w = .reject r)
    (hu : isCop1 w = false ∨ s.cu1 = true) : step s = .refused (refusalOf r) := by
  rw [step_of_fetches h, runWord, hd]
  obtain hu | hu := hu <;> simp [hu]

/-! Branch words -/

/-- Settles O5: the decoder looks at nd before the other cells of a branch word. -/
theorem branchWordsWithNdSetAreRefused : Obligations.BranchWordsWithNdSetAreRefused := by
  intro s w hfetch hcu1 hmajor hsub hnd
  have hbit : w.extractLsb' 17 1 = 1#1 := by
    rw [extractLsb'_one, hnd]
    rfl
  have hdecode : decode w = .reject .reservedNd := by
    obtain hsub | hsub := hsub
    · exact decode_fb_nd (four := false) ((isCop1_iff w).mpr hmajor) hsub hbit
    · exact decode_fb_nd (four := true) ((isCop1_iff w).mpr hmajor) hsub hbit
  exact step_rejected hfetch hdecode (.inr hcu1)

theorem alignedFour_extractLsb' (w : Word) (k : Nat) :
    CcNum.alignedFour (w.extractLsb' k 3) = (!w.getLsbD k && !w.getLsbD (k + 1)) := by
  have hcc : ∀ cc : CcNum, cc.alignedFour = (!cc.getLsbD 0 && !cc.getLsbD 1) := by decide
  simp [hcc]

/-- A branch word with nd = 0 whose cc is misaligned (R84). -/
theorem decode_fb_misaligned {w : Word} {four : Bool} (hmajor : isCop1 w = true)
    (hsub : w.extractLsb' 21 5 = branchCode four) (hnd : w.getLsbD 17 = false)
    (hcc : (w.extractLsb' 18 3 &&& ccMask four == 0#3) = false) : decode w = .reject .ccAlignment := by
  have hbit : w.extractLsb' 17 1 = 0#1 := by
    rw [extractLsb'_one, hnd]
    rfl
  rw [decode_fb hmajor hsub hbit, hcc]
  rfl

/-- Settles O6: the alignment of each operand is told by its low bits, and only the paired compares have one to keep. -/
theorem misalignedConditionCodesAreRefused : Obligations.MisalignedConditionCodesAreRefused := by
  intro s w hfetch hcu1 h26
  have hmajor : isCop1 w = true := (isCop1_iff w).mpr h26
  have hrefused : decode w = .reject .ccAlignment → step s = .refused .ccAlignment := fun hd =>
    step_rejected hfetch hd (.inr hcu1)
  refine ⟨fun hsub hnd hbit => hrefused ?two, fun hsub hnd hbit => hrefused ?four,
    fun hfmt hmark hbit => hrefused ?paired, decode_fc (f := .s) hmajor, decode_fc (f := .d) hmajor⟩
  case two =>
    have hcc : CcNum.alignedTwo (w.extractLsb' 18 3) = false := by simp [alignedTwo_extractLsb', hbit]
    exact decode_fb_misaligned (four := false) hmajor hsub hnd hcc
  case four =>
    have hcc : CcNum.alignedFour (w.extractLsb' 18 3) = false := by
      obtain hbit | hbit := hbit <;> simp [alignedFour_extractLsb', hbit]
    exact decode_fb_misaligned (four := true) hmajor hsub hnd hcc
  case paired =>
    rw [decode_fc (f := .ps) hmajor hfmt hmark, alignedTwo_extractLsb', hbit]
    rfl

/-! Words outside the table -/

/-- The fmt cells S, D and PS (R76). -/
theorem isFmt_iff (x : BitVec 5) : x = 0b10000#5 ∨ x = 0b10001#5 ∨ x = 0b10110#5 ↔ ∃ f : InstrFmt, x = f.code := by
  constructor
  · rintro (rfl | rfl | rfl)
    exacts [⟨.s, rfl⟩, ⟨.d, rfl⟩, ⟨.ps, rfl⟩]
  · rintro ⟨f, rfl⟩
    cases f <;> decide

theorem decode_other_major {w : Word} (h : isCop1 w = false) : decode w = .reject .notInScope := by
  simp [decode, h]

section

variable {w : Word} (hmajor : isCop1 w = true)
include hmajor

/-- No row has a fmt cell other than the six of R76 and R81. -/
theorem decode_other_fmt (hcode : ∀ f : InstrFmt, w.extractLsb' 21 5 ≠ f.code) (hpw : w.extractLsb' 21 5 ≠ pwCode)
    (hbranch : ∀ four, w.extractLsb' 21 5 ≠ branchCode four) : decode w = .reject .notInScope := by
  have htwo : w.extractLsb' 21 5 ≠ 0b01001#5 := hbranch false
  have hfour : w.extractLsb' 21 5 ≠ 0b01010#5 := hbranch true
  simp [decode, hmajor, htwo, hfour, hcode, hpw]

/-- CVT.PS.PW is the one row of format PW (R77). -/
theorem decode_pw_other_function (hfmt : w.extractLsb' 21 5 = pwCode) (hfn : w.extractLsb' 0 6 ≠ 0b100110#6) :
    decode w = .reject .notInScope := by
  rw [decode_of_pwCode hmajor hfmt]
  simp [decodePw, hfn]

/-- A word of the class of the compares without the mark of CABS: C.cond.fmt among them (R88). -/
theorem decode_compare_unmarked {f : InstrFmt} (hfmt : w.extractLsb' 21 5 = f.code)
    (hclass : w.extractLsb' 4 2 = 0b11#2) (hmark : w.extractLsb' 6 2 ≠ 0b01#2) : decode w = .reject .notInScope := by
  rw [decode_of_code hmajor hfmt]
  simp [decodeFmt, decodeCompare, hclass, hmark]

/-- A function cell that no row of the format has (R77). -/
theorem decode_other_function {f : InstrFmt} (hfmt : w.extractLsb' 21 5 = f.code) (hclass : w.extractLsb' 4 2 ≠ 0b11#2)
    (hall : w.extractLsb' 0 6 ∉ [0b011100#6, 0b011101#6, 0b011110#6, 0b011111#6])
    (hps : f = .ps → w.extractLsb' 0 6 ∉ [0b011000#6, 0b011010#6, 0b100100#6]) : decode w = .reject .notInScope := by
  simp only [List.mem_cons, List.not_mem_nil, or_false, not_or] at hall hps
  obtain ⟨hrecip2, hrecip1, hrsqrt1, hrsqrt2⟩ := hall
  rw [decode_of_code hmajor hfmt]
  by_cases hf : f = .ps
  · obtain ⟨haddr, hmulr, hcvt⟩ := hps hf
    simp [decodeFmt, hclass, hrecip2, hrecip1, hrsqrt1, hrsqrt2, haddr, hmulr, hcvt]
  · simp [decodeFmt, hclass, hrecip2, hrecip1, hrsqrt1, hrsqrt2, hf]

/-- A word of a row of FR2 but for its ft cell, which the format fixes to zero (R72). -/
theorem decode_fr2_nonzero {fmt : BitVec 5} {fn : BitVec 6} {mk : FReg → FReg → Instr} (row : Fr2Row fmt fn mk)
    (hfmt : w.extractLsb' 21 5 = fmt) (hfn : w.extractLsb' 0 6 = fn) (hft : w.extractLsb' 16 5 ≠ 0#5) :
    decode w = .reject .notInScope := by
  cases row with
  | cvtPsPw =>
    rw [decode_of_pwCode hmajor hfmt]
    simp [decodePw, hft]
  | cvtPwPs | recip1 f | rsqrt1 f =>
    rw [decode_of_code hmajor hfmt]
    simp [decodeFmt, class_eq, hfn, hft]

end

/-- Settles O7: one lemma on the decoder for each of the six kinds of words. -/
theorem wordsOutsideTheTableAreRefused : Obligations.WordsOutsideTheTableAreRefused := by
  intro s w hfetch fmt function isFmt
  refine ⟨fun h26 => ?otherMajor, fun hcu1 h26 => ?cop1⟩
  case otherMajor =>
    have hmajor : isCop1 w = false := by simpa [isCop1, cop1] using h26
    exact step_rejected hfetch (decode_other_major hmajor) (.inl hmajor)
  have hmajor : isCop1 w = true := (isCop1_iff w).mpr h26
  have hrefused : decode w = .reject .notInScope → step s = .refused .notInScope := fun hd =>
    step_rejected hfetch hd (.inr hcu1)
  refine ⟨fun hfmt hpw htwo hfour => hrefused ?otherFmt,
    fun hfmt hfn => hrefused (decode_pw_other_function hmajor hfmt hfn),
    fun hfmt hclass hmark => hrefused ?unmarked, fun hfmt hclass hall hps => hrefused ?otherFunction,
    fun hft hrow => hrefused ?nonzero⟩
  case otherFmt =>
    refine decode_other_fmt hmajor (fun f hf => hfmt ?_) hpw (Bool.forall_bool.mpr ⟨htwo, hfour⟩)
    exact (isFmt_iff fmt).mpr ⟨f, hf⟩
  case unmarked =>
    obtain ⟨f, hf⟩ := (isFmt_iff fmt).mp hfmt
    exact decode_compare_unmarked hmajor hf hclass hmark
  case otherFunction =>
    obtain ⟨f, hf⟩ := (isFmt_iff fmt).mp hfmt
    refine decode_other_function hmajor hf hclass hall fun hfps => hps ?_
    rw [hf, hfps]
    rfl
  case nonzero =>
    obtain ⟨hf, hfn⟩ | ⟨hf, hfn⟩ | ⟨hfmt, hfn⟩ := hrow
    · exact decode_fr2_nonzero hmajor .cvtPsPw hf hfn hft
    · exact decode_fr2_nonzero hmajor .cvtPwPs hf hfn hft
    · obtain ⟨f, hf⟩ := (isFmt_iff fmt).mp hfmt
      obtain hfn | hfn := hfn
      · exact decode_fr2_nonzero hmajor (.recip1 f) hf hfn hft
      · exact decode_fr2_nonzero hmajor (.rsqrt1 f) hf hfn hft

/-! The offset of a branch -/

/-- The offset of a branch word is its low half (R73). -/
theorem offset_of_decode {w : Word} {four : Bool} {tf : BitVec 1} {cc : CcNum} {o : BitVec 16}
    (h : decode w = .instr (branchInstr four tf cc o)) : o = w.extractLsb' 0 16 := by
  obtain ⟨-, hword⟩ := encodeDecodeRoundTrip w _ h
  rw [← hword, encode_branchInstr, encodeFb_offset]

theorem toInt_targetOffset (o : BitVec 16) : (targetOffset o).toInt = 4 * o.toInt := by
  rw [targetOffset, BitVec.toInt_signExtend_of_le (by decide), BitVec.toInt_append_zero]
  rfl

/-- An address of a 32-bit space is its low half (R34). -/
theorem wrapAddr_w32 (a : Addr) : wrapAddr .w32 a = (a.setWidth 32).setWidth 64 := by
  apply BitVec.eq_of_toNat_eq
  rw [toNat_wrapAddr, BitVec.toNat_setWidth_of_le (by decide), BitVec.toNat_setWidth]
  rfl

theorem setWidth_signExtend (x : BitVec 18) : (x.signExtend 64).setWidth 32 = x.signExtend 32 := by
  apply BitVec.eq_of_getLsbD_eq
  intro k hk
  have hk64 : k < 64 := by omega
  simp only [BitVec.getLsbD_setWidth, BitVec.getLsbD_signExtend, hk, hk64, decide_true, Bool.true_and]

/-- Settles O20: the offset is read off the encoder's word, and its value is the signed low half times 4. -/
theorem targetOffsetRange : Obligations.TargetOffsetRange := by
  intro s w cc o
  have hlow := BitVec.le_toInt o
  have hhigh := BitVec.toInt_lt (x := o)
  have hcut : wrapAddr .w32 (targetOffset o) = ((o ++ 0#2).signExtend 32).setWidth 64 := by
    rw [wrapAddr_w32, targetOffset, setWidth_signExtend]
  refine ⟨?offset, rfl, hcut, toInt_targetOffset o, ?low, ?high, by decide, by decide, rfl⟩
  case offset =>
    rintro (h | h | h | h)
    · exact offset_of_decode (four := false) (tf := 0#1) h
    · exact offset_of_decode (four := false) (tf := 1#1) h
    · exact offset_of_decode (four := true) (tf := 0#1) h
    · exact offset_of_decode (four := true) (tf := 1#1) h
  case low =>
    rw [toInt_targetOffset]
    omega
  case high =>
    rw [toInt_targetOffset]
    omega

/-! Worked encodings and conditions -/

/-- Settles O4: each word is evaluated. -/
theorem decodingOfWorkedEncodings : Obligations.DecodingOfWorkedEncodings := by
  refine ⟨?_, ?_, ?_, ?_, ?_, ?_, ?_, ?_, ?_, ?_, ?_, ?_, ?_, ?_, ?_, ?_⟩ <;> rfl

/-- Settles O47: the cond field has one bit for each of less, equal and unordered, and one for signaling a quiet NaN
(R172). -/
theorem compareConditionTable : Obligations.CompareConditionTable := by
  intro w L n a b un lt eq sn qn
  have hcabs (cond : BitVec 4) : cabs1 n L cond a b =
      ((cond.getLsbD 2 && lt) || (cond.getLsbD 1 && eq) || (cond.getLsbD 0 && un), sn || (cond.getLsbD 3 && qn)) := rfl
  clear_value un lt eq sn qn
  simp [hcabs, Cond.bits]

end Sys2Proof.Machine
end

section
/-! The checks that come before an instruction's own rule, in the order of R130: every instruction begins with `guarded`,
then comes the check of the delay slot or of the operands, then Unimplemented Operation. -/

namespace Sys2Proof.Machine

/-! A step runs a word -/

/-- Settles O8: a step from a fetching state runs the word, and a word of the table runs its instruction. -/
theorem stepRunsDecodedInstruction : Obligations.StepRunsDecodedInstruction := fun s _ _ hfetch hdecode =>
  (step_of_fetches hfetch).trans (runWord_instr hdecode s)

theorem runWord_reject {w : Word} {r : Reject} (h : decode w = .reject r) (s : State) :
    runWord w s = if w.extractLsb' 26 6 = 0b010001#6 ∧ s.cu1 = false then raise (.coprocessorUnusable 1#2) s
      else .refused (refusalOf r) := by
  simp [runWord, h, isCop1, cop1]

/-- Settles O9: the outcome of `runWord` on a rejected word. -/
theorem stepOutcomeOnRejectedWords : Obligations.StepOutcomeOnRejectedWords := fun s _ _ hfetch hdecode =>
  (step_of_fetches hfetch).trans (runWord_reject hdecode s)

/-! Steps 3 to 5 -/

theorem guarded_unusable {i : Instr} {s : State} {body : Out} (h : s.cu1 = false) :
    guarded i s body = raise (.coprocessorUnusable 1#2) s := by
  simp [guarded, h]

theorem guarded_lacking {i : Instr} {s : State} {body : Out} (hcu1 : s.cu1 = true) (hwf : i.wellFormed = true)
    (h : i.mnemonic ∈ s.cfg.lacking) : guarded i s body = raise .reservedInstruction s := by
  simp [guarded, hcu1, hwf, implemented, h]

theorem guarded_illFormed {i : Instr} {s : State} {body : Out} (h : i.wellFormed = false) {why : Refusal}
    (hr : guarded i s body = .refused why) : why = .ccAlignment := by
  unfold guarded at hr
  split at hr
  · exact absurd hr raise_not_refused
  · simp only [h, Bool.not_false, if_true] at hr
    cases hr
    rfl

/-- Every instruction makes the checks of steps 3 to 5 first. -/
theorem exec_guarded (i : Instr) (s : State) : ∃ body, exec i s = guarded i s body := by
  rcases exec_shape i with hs | hs | hs | hs | hs
  · obtain ⟨-, -, -, -, -, _, hx⟩ := hs
    exact ⟨_, hx s⟩
  · obtain ⟨-, -, -, _, _, _, _, -, -, hx⟩ := hs
    exact ⟨_, hx s⟩
  · obtain ⟨-, -, -, _, _, _, _, _, -, -, hx⟩ := hs
    exact ⟨_, hx s⟩
  · obtain ⟨-, -, -, _, _, _, _, -, -, hx⟩ := hs
    exact ⟨_, hx s⟩
  · obtain ⟨-, -, -, -, _, _, _, _, _, -, -, hx⟩ := hs
    exact ⟨_, hx s⟩

theorem exec_unusable {i : Instr} {s : State} (h : s.cu1 = false) : exec i s = raise (.coprocessorUnusable 1#2) s := by
  obtain ⟨body, hx⟩ := exec_guarded i s
  rw [hx, guarded_unusable h]

/-- Settles O37: a word of the table runs its instruction, any other COP1 word is checked by the step itself. -/
theorem coprocessorUnusableComesFirst : Obligations.CoprocessorUnusableComesFirst := by
  intro s hcu1
  refine ⟨fun i => exec_unusable hcu1, fun w hfetch hmajor => ?_⟩
  rw [step_of_fetches hfetch]
  cases hd : decode w with
  | instr i => rw [runWord_instr hd, exec_unusable hcu1]
  | reject r => rw [runWord_reject hd, if_pos ⟨hmajor, hcu1⟩]

/-- Settles O38: the check of step 5 in `guarded`. -/
theorem reservedInstructionIsRaised : Obligations.ReservedInstructionIsRaised := by
  intro i s hcu1 hwf hlack
  obtain ⟨body, hx⟩ := exec_guarded i s
  rw [hx, guarded_lacking hcu1 hwf hlack]

/-! Step 6 -/

theorem withNone_inDelaySlot {i : Instr} {s : State} {body : Out} (hu : Usable i s) (hd : s.ds.isSome = true) :
    withNone i s body = .refused .branchInDelaySlot := by
  simp [withNone, guarded_usable hu, hd]

/-- Settles O40: only a branch has this refusal among its outcomes, and an ill-formed instruction has another. -/
theorem branchInDelaySlotIsRefused : Obligations.BranchInDelaySlotIsRefused := by
  refine fun i s => ⟨fun hu hb hd => ?_, fun hb hr => ?_⟩
  · obtain ⟨n, tf, cc, offset, hx⟩ := exec_branchAny hb
    rw [hx, branchAny, withNone_inDelaySlot hu hd]
  · cases hwf : i.wellFormed with
    | true =>
      cases refuses_of_answers (exec_answers hwf s) hr with
      | branchInDelaySlot hb' => simp [hb] at hb'
    | false =>
      obtain ⟨body, hx⟩ := exec_guarded i s
      cases guarded_illFormed hwf (hx ▸ hr)

/-! Step 9 -/

theorem unlessUnimplemented_raises {i : Instr} {ops : List (BitVec 64)} {s : State} {body : Out}
    (h : unimplementedOp s i ops = true) :
    unlessUnimplemented i ops s body = raise (.floatingPoint causeE) (setCause causeE s) := by
  simp [unlessUnimplemented, h]

theorem withNone_unimplemented {i : Instr} {s : State} {body : Out} (hu : Usable i s) (hd : s.ds = none)
    (h : unimplementedOp s i [] = true) :
    withNone i s body = raise (.floatingPoint causeE) (setCause causeE s) := by
  simp [withNone, guarded_usable hu, hd, unlessUnimplemented_raises h]

theorem withOne_unimplemented {i : Instr} {f : Fmt} {fs : FReg} {free : State → State} {s : State}
    {body : BitVec 64 → Out} (hu : Usable i s) (hm : s.fp32regs = true) (hr : Readable s fs f)
    (h : unimplementedOp s i [operandBits s fs f] = true) :
    withOne i f fs free s body = raise (.floatingPoint causeE) (setCause causeE s) := by
  simp [withOne, guarded_usable hu, hm, valueFpr_readable hr, unlessUnimplemented_raises h]

theorem withTwo_unimplemented {i : Instr} {f : Fmt} {fs ft : FReg} {free : State → State} {s : State}
    {body : BitVec 64 → BitVec 64 → Out} (hu : Usable i s) (hm : s.fp32regs = true) (hr : Readable s fs f)
    (hr' : Readable s ft f) (h : unimplementedOp s i [operandBits s fs f, operandBits s ft f] = true) :
    withTwo i f fs ft free s body = raise (.floatingPoint causeE) (setCause causeE s) := by
  simp [withTwo, guarded_usable hu, hm, valueFpr_readable hr, valueFpr_readable hr', unlessUnimplemented_raises h]

/-- Settles O39: the operand bits the predicate is asked with are those of the registers the instruction reads. -/
theorem unimplementedOperationTraps : Obligations.UnimplementedOperationTraps := by
  intro i s hu hd hm hread h
  cases hb : isBranch i with
  | true =>
    obtain ⟨n, tf, cc, offset, hx⟩ := exec_branchAny hb
    rw [sourceRegs_of_branch hb] at h
    rw [hx]
    exact withNone_unimplemented hu (hd hb) h
  | false =>
    rcases readsRegisters_of_not_branch hb with ⟨fs, free, body, hregs, hx⟩ | ⟨fs, ft, free, body, hregs, hx⟩
    · simp only [hregs, List.forall_mem_singleton] at hread
      rw [hregs] at h
      rw [hx]
      exact withOne_unimplemented hu (hm hb) hread h
    · simp only [hregs, List.forall_mem_cons, List.not_mem_nil, false_imp_iff, implies_true, and_true] at hread
      rw [hregs] at h
      rw [hx]
      exact withTwo_unimplemented hu (hm hb) hread.1 hread.2 h

end Sys2Proof.Machine
end

section
/-! The trapping branch of R121: an instruction that executes and signals an enabled condition raises the Floating Point
exception on the state as it was but for Cause. One lemma for each shared operation. -/

namespace Sys2Proof.Machine

/-- The outcome of the trapping branch for the conditions c. -/
theorem signal_enabled {c : Conds} {write : State → State} {s : State} (h : meetsEnables s.fcsr.enables c = true) :
    signal (causeOf c) write s =
      raise (.floatingPoint ⟨false, c⟩) { s with fcsr := { s.fcsr with cause := ⟨false, c⟩ } } :=
  signal_traps (by simp [causeTraps, causeOf, h])

/-! The paired arithmetic and the conversions -/

/-- Settles O34: two reductions and two conversions, each of which signals the union over its halves. -/
theorem reductionAndConversionTraps : Obligations.ReductionAndConversionTraps := by
  refine fun fd fs ft s => ⟨fun h ht => ?addr, fun h ht => ?mulr, fun h ht => ?cvtPs, fun h ht => ?cvtPw⟩
  case addr | mulr => exact (withTwo_executes h).trans (signal_enabled ht)
  case cvtPs | cvtPw => exact (withOne_executes h).trans (signal_enabled ht)

/-! The compares -/

theorem exec_cabsInstr_s (c : Cond) (cc : CcNum) (fs ft : FReg) (s : State) :
    exec (cabsInstr .s c cc fs ft) s = compareS c.bits (cabsInstr .s c cc fs ft) cc fs ft s := by
  cases c <;> rfl

theorem exec_cabsInstr_d (c : Cond) (cc : CcNum) (fs ft : FReg) (s : State) :
    exec (cabsInstr .d c cc fs ft) s = compareD c.bits (cabsInstr .d c cc fs ft) cc fs ft s := by
  cases c <;> rfl

theorem exec_cabsInstr_ps (c : Cond) (cc : CcNum) (fs ft : FReg) (s : State) :
    exec (cabsInstr .ps c cc fs ft) s = comparePs c.bits (cabsInstr .ps c cc fs ft) cc fs ft s := by
  cases c <;> rfl

theorem lowerHalf_operandBits_s (s : State) (r : FReg) :
    lowerHalf (operandBits s r .s) = (getFpr s r).bits.extractLsb' 0 32 := by
  exact BitVec.extractLsb'_append_eq_right

/-- Invalid Operation is all a compare signals. -/
theorem signal_invalid {v : Bool} {write : State → State} {s : State} (he : s.fcsr.enables.v = true) (hv : v = true) :
    signal (causeOf (invalidIf v)) write s =
      raise (.floatingPoint ⟨false, condV⟩) { s with fcsr := { s.fcsr with cause := ⟨false, condV⟩ } } := by
  subst hv
  exact signal_enabled (by simp [meetsEnables, invalidIf, condV, he])

/-- Settles O35: one operation for each operand format. -/
theorem compareTraps : Obligations.CompareTraps := by
  refine fun c cc fs ft s he => ⟨fun h hv => ?s, fun h hv => ?d, fun h hv => ?ps⟩
  case s =>
    rw [← lowerHalf_operandBits_s s fs, ← lowerHalf_operandBits_s s ft] at hv
    rw [exec_cabsInstr_s]
    exact (withTwo_executes h).trans (signal_invalid he hv)
  case d =>
    rw [exec_cabsInstr_d]
    exact (withTwo_executes h).trans (signal_invalid he hv)
  case ps =>
    rw [exec_cabsInstr_ps]
    exact (withTwo_executes h).trans (signal_invalid he hv)

/-! The reciprocals -/

theorem exec_recip1Instr (f : InstrFmt) (fd fs : FReg) (s : State) :
    exec (recip1Instr f fd fs) s = recipOne f (recip1Instr f fd fs) fd fs s := by
  cases f <;> rfl

theorem exec_recip2Instr (f : InstrFmt) (fd fs ft : FReg) (s : State) :
    exec (recip2Instr f fd fs ft) s = recipTwo f (recip2Instr f fd fs ft) fd fs ft s := by
  cases f <;> rfl

theorem exec_rsqrt1Instr (f : InstrFmt) (fd fs : FReg) (s : State) :
    exec (rsqrt1Instr f fd fs) s = rsqrtOne f (rsqrt1Instr f fd fs) fd fs s := by
  cases f <;> rfl

theorem exec_rsqrt2Instr (f : InstrFmt) (fd fs ft : FReg) (s : State) :
    exec (rsqrt2Instr f fd fs ft) s = rsqrtTwo f (rsqrt2Instr f fd fs ft) fd fs ft s := by
  cases f <;> rfl

/-- Settles O36: each function is lifted to the three forms alike. -/
theorem recipAndRsqrtTraps : Obligations.RecipAndRsqrtTraps := by
  refine fun f fd fs ft s => ⟨fun h ht => ?recip1, fun h ht => ?recip2, fun h ht => ?rsqrt1, fun h ht => ?rsqrt2⟩
  case recip1 =>
    rw [exec_recip1Instr]
    exact (withOne_executes h).trans (signal_enabled ht)
  case recip2 =>
    rw [exec_recip2Instr]
    exact (withTwo_executes h).trans (signal_enabled ht)
  case rsqrt1 =>
    rw [exec_rsqrt1Instr]
    exact (withOne_executes h).trans (signal_enabled ht)
  case rsqrt2 =>
    rw [exec_rsqrt2Instr]
    exact (withTwo_executes h).trans (signal_enabled ht)

end Sys2Proof.Machine
end

section
/-! Bit patterns of a format as a sign and one number, the exponent and fraction fields together (R100, R101, R105). The
classes of values are intervals of that number, and the magnitude is strictly increasing in it. -/

namespace Sys2Proof.Machine

/-- The layout is that of a w-bit format with a sign bit, a normalized range and a fraction. -/
structure Layout.Fits (L : Layout) (w : Nat) : Prop where
  width : w = L.fracBits + L.expBits + 1
  two_le_exp : 2 ≤ L.expBits
  one_le_frac : 1 ≤ L.fracBits

theorem single_fits : single.Fits 32 := ⟨rfl, by decide, by decide⟩

theorem double_fits : double.Fits 64 := ⟨rfl, by decide, by decide⟩

/-- The exponent and fraction fields of a pattern as one number. -/
def fields {w : Nat} (x : BitVec w) : Nat := x.toNat % 2 ^ (w - 1)

/-- The magnitude with the given exponent and fraction fields, in units of the smallest denormalized value. -/
def fieldsMagnitude (L : Layout) (n : Nat) : Nat :=
  if n / 2 ^ L.fracBits = 0 then n % 2 ^ L.fracBits
  else (2 ^ L.fracBits + n % 2 ^ L.fracBits) * 2 ^ (n / 2 ^ L.fracBits - 1)

variable {L : Layout} {w : Nat}

/-! A pattern is its sign and its fields -/

theorem fields_lt (x : BitVec w) : fields x < 2 ^ (w - 1) := Nat.mod_lt _ (by positivity)

theorem toNat_eq_fields (hw : 0 < w) (x : BitVec w) :
    x.toNat = fields x + if signBit x then 2 ^ (w - 1) else 0 := by
  have hx : x.toNat < 2 ^ (w - 1) * 2 := Nat.two_pow_pred_mul_two hw ▸ x.isLt
  have hsign : signBit x = decide (2 ^ (w - 1) ≤ x.toNat) := BitVec.msb_eq_decide x
  rw [hsign, fields]
  by_cases h : 2 ^ (w - 1) ≤ x.toNat
  · rw [Nat.mod_eq_sub_mod h, Nat.mod_eq_of_lt (by omega)]
    simp [h]
  · rw [Nat.mod_eq_of_lt (by omega)]
    simp [h]

theorem pattern_ext (hw : 0 < w) {x y : BitVec w} (hs : signBit x = signBit y) (hf : fields x = fields y) : x = y := by
  apply BitVec.eq_of_toNat_eq
  rw [toNat_eq_fields hw, toNat_eq_fields hw, hs, hf]

theorem toNat_packBits (hw : 0 < w) (s : Bool) {n : Nat} (hn : n < 2 ^ (w - 1)) :
    (packBits w s n).toNat = n + if s then 2 ^ (w - 1) else 0 := by
  have hdouble := Nat.two_pow_pred_mul_two hw
  rw [packBits, BitVec.toNat_ofNat, Nat.mod_eq_of_lt]
  split <;> omega

theorem fields_packBits (hw : 0 < w) (s : Bool) {n : Nat} (hn : n < 2 ^ (w - 1)) : fields (packBits w s n) = n := by
  rw [fields, toNat_packBits hw s hn]
  cases s <;> simp [Nat.mod_eq_of_lt hn]

theorem signBit_packBits (hw : 0 < w) (s : Bool) {n : Nat} (hn : n < 2 ^ (w - 1)) : signBit (packBits w s n) = s := by
  rw [signBit, BitVec.msb_eq_decide, toNat_packBits hw s hn]
  cases s <;> simp [hn]

theorem packBits_fields (hw : 0 < w) (x : BitVec w) : packBits w (signBit x) (fields x) = x :=
  pattern_ext hw (signBit_packBits hw _ (fields_lt x)) (fields_packBits hw _ (fields_lt x))

theorem toNat_absValue (x : BitVec w) : (absValue x).toNat = fields x := by
  rw [absValue, BitVec.toNat_and, BitVec.toNat_intMax, Nat.and_two_pow_sub_one_eq_mod, fields]

theorem fields_absValue (x : BitVec w) : fields (absValue x) = fields x := by
  rw [fields, toNat_absValue, Nat.mod_eq_of_lt (fields_lt x)]

theorem signBit_absValue (x : BitVec w) : signBit (absValue x) = false := by
  rw [signBit, BitVec.msb_eq_decide, toNat_absValue]
  simp [fields_lt]

/-! The fields of a layout -/

theorem Layout.Fits.width_pos (hL : L.Fits w) : 0 < w := by
  rw [hL.width]
  omega

theorem Layout.Fits.pow_width (hL : L.Fits w) : 2 ^ (w - 1) = 2 ^ L.fracBits * 2 ^ L.expBits := by
  rw [hL.width, Nat.add_sub_cancel, pow_add]

theorem expField_eq_fields (hL : L.Fits w) (x : BitVec w) : expField L x = fields x / 2 ^ L.fracBits := by
  rw [expField, fields, hL.pow_width, Nat.mod_mul_right_div_self]

theorem fracField_eq_fields (hL : L.Fits w) (x : BitVec w) : fracField L x = fields x % 2 ^ L.fracBits := by
  rw [fracField, fields, hL.pow_width, Nat.mod_mul_right_mod]

theorem magnitude_eq_fields (hL : L.Fits w) (x : BitVec w) : magnitude L x = fieldsMagnitude L (fields x) := by
  rw [magnitude, fieldsMagnitude, expField_eq_fields hL, fracField_eq_fields hL]

theorem Layout.Fits.infFields_pos (hL : L.Fits w) : 0 < infFields L := by
  have he := hL.two_le_exp
  have : 2 ^ 2 ≤ 2 ^ L.expBits := Nat.pow_le_pow_right (by decide) he
  exact Nat.mul_pos (by rw [expMax]; omega) (by positivity)

theorem Layout.Fits.infFields_add (hL : L.Fits w) : infFields L + 2 ^ L.fracBits = 2 ^ (w - 1) := by
  have hpos : 0 < 2 ^ L.expBits := by positivity
  rw [hL.pow_width, infFields, expMax, ← Nat.succ_mul, Nat.succ_eq_add_one, Nat.sub_add_cancel hpos, mul_comm]

theorem Layout.Fits.infFields_lt (hL : L.Fits w) : infFields L < 2 ^ (w - 1) := by
  have hpos : 0 < 2 ^ L.fracBits := by positivity
  have := hL.infFields_add
  omega

/-! The classes of patterns -/

theorem expField_eq_expMax_iff (hL : L.Fits w) (x : BitVec w) : expField L x = expMax L ↔ infFields L ≤ fields x := by
  have hlt : fields x < (expMax L + 1) * 2 ^ L.fracBits := by
    rw [Nat.succ_mul]
    exact hL.infFields_add ▸ fields_lt x
  have hle : expField L x ≤ expMax L := by
    rw [expField_eq_fields hL]
    exact Nat.lt_succ_iff.mp (Nat.div_lt_of_lt_mul (by rwa [mul_comm]))
  have hge : expMax L ≤ expField L x ↔ infFields L ≤ fields x := by
    rw [expField_eq_fields hL, infFields, Nat.le_div_iff_mul_le (by positivity)]
  omega

/-- A multiple of 2^fracBits at or below the fields has the fraction field zero just when it is the fields. -/
theorem fracField_eq_zero_iff (hL : L.Fits w) {x : BitVec w} (h : expField L x = expMax L) :
    fracField L x = 0 ↔ fields x = infFields L := by
  have hdiv := Nat.div_add_mod' (fields x) (2 ^ L.fracBits)
  rw [← expField_eq_fields hL, ← fracField_eq_fields hL, h] at hdiv
  rw [infFields]
  omega

theorem isNaN_iff (hL : L.Fits w) (x : BitVec w) : isNaN L x = true ↔ infFields L < fields x := by
  simp only [isNaN, Bool.and_eq_true, beq_iff_eq, bne_iff_ne, ne_eq]
  constructor
  · rintro ⟨he, hf⟩
    rw [fracField_eq_zero_iff hL he] at hf
    exact lt_of_le_of_ne ((expField_eq_expMax_iff hL x).mp he) (Ne.symm hf)
  · intro h
    have he := (expField_eq_expMax_iff hL x).mpr h.le
    exact ⟨he, by rw [fracField_eq_zero_iff hL he]; exact h.ne'⟩

theorem isInf_iff (hL : L.Fits w) (x : BitVec w) : isInf L x = true ↔ fields x = infFields L := by
  simp only [isInf, Bool.and_eq_true, beq_iff_eq]
  constructor
  · rintro ⟨he, hf⟩
    exact (fracField_eq_zero_iff hL he).mp hf
  · intro h
    have he := (expField_eq_expMax_iff hL x).mpr h.ge
    exact ⟨he, (fracField_eq_zero_iff hL he).mpr h⟩

theorem isZero_iff (hL : L.Fits w) (x : BitVec w) : isZero L x = true ↔ fields x = 0 := by
  have hdiv := Nat.div_add_mod' (fields x) (2 ^ L.fracBits)
  simp only [isZero, Bool.and_eq_true, beq_iff_eq, expField_eq_fields hL, fracField_eq_fields hL]
  constructor
  · rintro ⟨he, hf⟩
    rw [← hdiv, he, hf, zero_mul]
  · intro h
    simp [h]

theorem isDenorm_iff (hL : L.Fits w) (x : BitVec w) : isDenorm L x = true ↔ 0 < fields x ∧ fields x < 2 ^ L.fracBits := by
  have hpos : 0 < 2 ^ L.fracBits := by positivity
  simp only [isDenorm, Bool.and_eq_true, beq_iff_eq, bne_iff_ne, expField_eq_fields hL, fracField_eq_fields hL,
    Nat.div_eq_zero_iff_lt hpos]
  constructor
  · rintro ⟨he, hf⟩
    rw [Nat.mod_eq_of_lt he] at hf
    exact ⟨Nat.pos_of_ne_zero hf, he⟩
  · rintro ⟨h, he⟩
    exact ⟨he, by rw [Nat.mod_eq_of_lt he]; omega⟩

theorem finite_iff (hL : L.Fits w) (x : BitVec w) : isNaN L x = false ∧ isInf L x = false ↔ fields x < infFields L := by
  rw [← Bool.not_eq_true, ← Bool.not_eq_true, isNaN_iff hL, isInf_iff hL]
  omega

/-! The magnitude of the fields -/

/-- A number n at the place 2^k, denormalized (k = 0), normalized, or just carried into the next exponent. -/
theorem fieldsMagnitude_place (L : Layout) {k n : Nat} (hn : n ≤ 2 ^ (L.fracBits + 1)) (hk : k = 0 ∨ 2 ^ L.fracBits ≤ n) :
    fieldsMagnitude L (k * 2 ^ L.fracBits + n) = n * 2 ^ k := by
  have hpos : 0 < 2 ^ L.fracBits := by positivity
  have hdiv : (k * 2 ^ L.fracBits + n) / 2 ^ L.fracBits = k + n / 2 ^ L.fracBits := by
    rw [add_comm, Nat.add_mul_div_right _ _ hpos, add_comm]
  have hmod : (k * 2 ^ L.fracBits + n) % 2 ^ L.fracBits = n % 2 ^ L.fracBits := by
    rw [add_comm, Nat.add_mul_mod_self_right]
  rw [pow_succ] at hn
  rw [fieldsMagnitude, hdiv, hmod]
  rcases Nat.lt_or_ge n (2 ^ L.fracBits) with hlow | hhigh
  · obtain rfl : k = 0 := by omega
    simp [Nat.div_eq_of_lt hlow, Nat.mod_eq_of_lt hlow]
  rcases Nat.lt_or_ge n (2 ^ L.fracBits * 2) with hlow' | hcarry
  · have hq : n / 2 ^ L.fracBits = 1 := Nat.div_eq_of_lt_le (by omega) (by omega)
    have hr : n % 2 ^ L.fracBits = n - 2 ^ L.fracBits := by
      rw [Nat.mod_eq_sub_mod hhigh, Nat.mod_eq_of_lt (by omega)]
    rw [hq, hr, if_neg (by omega), Nat.add_sub_cancel, Nat.add_sub_cancel' hhigh]
  · obtain rfl : n = 2 ^ L.fracBits * 2 := by omega
    rw [Nat.mul_div_cancel_left _ hpos, Nat.mul_mod_right, if_neg (by omega), Nat.add_sub_assoc (by decide), pow_succ]
    ring

/-- Every number of fields is some n at some place. -/
theorem exists_place (L : Layout) (N : Nat) :
    ∃ k n, n < 2 ^ (L.fracBits + 1) ∧ (k = 0 ∨ 2 ^ L.fracBits ≤ n) ∧ N = k * 2 ^ L.fracBits + n := by
  have hpos : 0 < 2 ^ L.fracBits := by positivity
  have hdiv := Nat.div_add_mod' N (2 ^ L.fracBits)
  have hmod := Nat.mod_lt N hpos
  cases hq : N / 2 ^ L.fracBits with
  | zero =>
    rw [hq, zero_mul] at hdiv
    exact ⟨0, N, by rw [pow_succ]; omega, .inl rfl, by omega⟩
  | succ k =>
    rw [hq, Nat.succ_mul] at hdiv
    exact ⟨k, 2 ^ L.fracBits + N % 2 ^ L.fracBits, by rw [pow_succ]; omega, .inr (Nat.le_add_right _ _), by omega⟩

theorem fieldsMagnitude_strictMono (L : Layout) : StrictMono (fieldsMagnitude L) := by
  refine strictMono_nat_of_lt_succ fun N => ?_
  obtain ⟨k, n, hn, hk, rfl⟩ := exists_place L N
  rw [add_assoc, fieldsMagnitude_place L hn.le hk, fieldsMagnitude_place L hn (by omega)]
  exact Nat.mul_lt_mul_of_pos_right n.lt_succ_self (by positivity)

theorem fieldsMagnitude_zero (L : Layout) : fieldsMagnitude L 0 = 0 := by
  simp [fieldsMagnitude]

theorem magnitude_eq_zero_iff (hL : L.Fits w) (x : BitVec w) : magnitude L x = 0 ↔ isZero L x = true := by
  rw [magnitude_eq_fields hL, isZero_iff hL]
  exact (fieldsMagnitude_strictMono L).injective.eq_iff' (fieldsMagnitude_zero L)

theorem magnitude_pos (hL : L.Fits w) {x : BitVec w} (h : isZero L x = false) : 0 < magnitude L x := by
  rw [Nat.pos_iff_ne_zero, ne_eq, magnitude_eq_zero_iff hL, h]
  exact Bool.false_ne_true

/-! The absolute compare -/

theorem signedMagnitude_absValue (hL : L.Fits w) (x : BitVec w) :
    signedMagnitude L (absValue x) = (fieldsMagnitude L (fields x) : Int) := by
  simp [signedMagnitude, signBit_absValue, magnitude_eq_fields hL, fields_absValue]

theorem fpLess_absValue (hL : L.Fits w) (a b : BitVec w) :
    fpLess L (absValue a) (absValue b) = decide (fields a < fields b) := by
  simp [fpLess, signedMagnitude_absValue hL, (fieldsMagnitude_strictMono L).lt_iff_lt]

theorem fpEqual_absValue (hL : L.Fits w) (a b : BitVec w) :
    fpEqual L (absValue a) (absValue b) = decide (fields a = fields b) := by
  rw [Bool.eq_iff_iff]
  simp [fpEqual, signedMagnitude_absValue hL, (fieldsMagnitude_strictMono L).injective.eq_iff]

/-- Settles O48: the magnitude is strictly increasing in the fields, which are the pattern without its sign. -/
theorem absoluteCompareIsUnsigned : Obligations.AbsoluteCompareIsUnsigned :=
  ⟨fun a b _ _ => ⟨fpLess_absValue single_fits a b, fpEqual_absValue single_fits a b⟩,
    fun a b _ _ => ⟨fpLess_absValue double_fits a b, fpEqual_absValue double_fits a b⟩⟩

end Sys2Proof.Machine
end

section
/-! Rounding an exact fraction with a sign to an integer (R111): `roundChoice` on the whole part and the remainder is
`roundToInt` of the rational number. -/

namespace Sys2Proof.Machine

/-- The factor of a sign: -1 where it is set. -/
def signUnit (s : Bool) : ℤ := if s then -1 else 1

@[simp] theorem signUnit_false : signUnit false = 1 := rfl
@[simp] theorem signUnit_true : signUnit true = -1 := rfl

theorem signUnit_ne_zero (s : Bool) : signUnit s ≠ 0 := by
  cases s <;> decide

/-! Rational numbers -/

theorem roundToInt_intCast (mode : RoundingMode) (k : ℤ) : roundToInt mode (k : ℚ) = k := by
  cases mode <;> simp [roundToInt]

section
variable {v : ℚ} {k : ℤ} (hlow : (k : ℚ) < v) (hhigh : v < k + 1)
include hlow hhigh

theorem floor_between : ⌊v⌋ = k := Int.floor_eq_iff.mpr ⟨hlow.le, hhigh⟩

theorem ceil_between : ⌈v⌉ = k + 1 := Int.ceil_eq_iff.mpr ⟨by push_cast; linarith, by push_cast; exact hhigh.le⟩

theorem roundToInt_rn_between :
    roundToInt .rn v = if v - k < 1 / 2 ∨ (v - k = 1 / 2 ∧ k % 2 = 0) then k else k + 1 := by
  rw [roundToInt, floor_between hlow hhigh]

theorem roundToInt_rz_between : roundToInt .rz v = if v < 0 then k + 1 else k := by
  rw [roundToInt, floor_between hlow hhigh, ceil_between hlow hhigh]

theorem roundToInt_rp_between : roundToInt .rp v = k + 1 := ceil_between hlow hhigh

theorem roundToInt_rm_between : roundToInt .rm v = k := floor_between hlow hhigh

end

/-! Fractions -/

theorem roundChoice_zero (mode : RoundingMode) (s : Bool) (lo : Nat) : roundChoice mode s lo .zero = lo := by
  cases mode <;> rfl

theorem roundChoice_bounds (mode : RoundingMode) (s : Bool) (lo : Nat) (r : Remainder) :
    lo ≤ roundChoice mode s lo r ∧ roundChoice mode s lo r ≤ lo + 1 := by
  unfold roundChoice
  repeat' split
  all_goals omega

section
variable {num den : Nat} (hden : 0 < den)
include hden

theorem ratio_eq_add : (num : ℚ) / den = (num / den : ℕ) + (num % den : ℕ) / den := by
  have hne : (den : ℚ) ≠ 0 := by positivity
  have hdiv : (den : ℚ) * (num / den : ℕ) + (num % den : ℕ) = num := mod_cast Nat.div_add_mod num den
  rw [← hdiv, add_div, mul_div_cancel_left₀ _ hne]

theorem ratio_eq_div (h : num % den = 0) : (num : ℚ) / den = (num / den : ℕ) := by
  rw [ratio_eq_add hden, h, Nat.cast_zero, zero_div, add_zero]

theorem remainder_lt_one : ((num % den : ℕ) : ℚ) / den < 1 := by
  rw [div_lt_one (by positivity)]
  exact_mod_cast Nat.mod_lt num hden

theorem remainder_lt_half_iff : ((num % den : ℕ) : ℚ) / den < 1 / 2 ↔ 2 * (num % den) < den := by
  rw [div_lt_div_iff₀ (by positivity) (by norm_num), one_mul, mul_comm]
  exact_mod_cast Iff.rfl

theorem half_lt_remainder_iff : 1 / 2 < ((num % den : ℕ) : ℚ) / den ↔ den < 2 * (num % den) := by
  rw [div_lt_div_iff₀ (by norm_num) (by positivity), one_mul, mul_comm]
  exact_mod_cast Iff.rfl

theorem remainder_eq_half_iff : ((num % den : ℕ) : ℚ) / den = 1 / 2 ↔ 2 * (num % den) = den := by
  rw [div_eq_div_iff (by positivity) (by norm_num), one_mul, mul_comm]
  exact_mod_cast Iff.rfl

theorem roundToInt_ratio_pos (mode : RoundingMode) (hr : num % den ≠ 0) :
    roundToInt mode ((num : ℚ) / den) = roundChoice mode false (num / den) (remainderOf num den) := by
  have hrem : remainderOf num den ≠ .zero := by rwa [ne_eq, remainderOf_eq_zero_iff]
  have hpos : (0 : ℚ) < (num % den : ℕ) / den := by positivity
  have hone := remainder_lt_one (num := num) hden
  have hadd : (num : ℚ) / den = ((num / den : ℕ) : ℤ) + (num % den : ℕ) / den := by
    rw [ratio_eq_add hden, Int.cast_natCast]
  have hlow : (((num / den : ℕ) : ℤ) : ℚ) < (num : ℚ) / den := by linarith
  have hhigh : (num : ℚ) / den < ((num / den : ℕ) : ℤ) + 1 := by linarith
  have hpart : (num : ℚ) / den - ((num / den : ℕ) : ℤ) = (num % den : ℕ) / den := by linarith
  cases mode
  case rn =>
    simp only [roundToInt_rn_between hlow hhigh, roundChoice_rn _ _ _ hden, hpart, remainder_lt_half_iff hden,
      remainder_eq_half_iff hden]
    split_ifs <;> omega
  case rz => rw [roundToInt_rz_between hlow hhigh, roundChoice_rz, if_neg (not_lt.mpr (by positivity))]
  case rp => rw [roundToInt_rp_between hlow hhigh, roundChoice_rp, if_pos ⟨rfl, hrem⟩, Nat.cast_succ]
  case rm => rw [roundToInt_rm_between hlow hhigh, roundChoice_rm, if_neg (by simp)]

/-- A negative number lies above its floor by what the remainder of its magnitude lacks to 1. -/
theorem roundToInt_ratio_neg (mode : RoundingMode) (hr : num % den ≠ 0) :
    roundToInt mode (-((num : ℚ) / den)) = -(roundChoice mode true (num / den) (remainderOf num den) : ℤ) := by
  have hrem : remainderOf num den ≠ .zero := by rwa [ne_eq, remainderOf_eq_zero_iff]
  have hpos : (0 : ℚ) < (num % den : ℕ) / den := by positivity
  have hone := remainder_lt_one (num := num) hden
  have hadd : (num : ℚ) / den = -((-((num / den : ℕ) + 1 : ℤ) : ℤ) : ℚ) - 1 + (num % den : ℕ) / den := by
    rw [ratio_eq_add hden, Int.cast_neg, Int.cast_add, Int.cast_one, Int.cast_natCast]
    ring
  have hlow : ((-((num / den : ℕ) + 1 : ℤ) : ℤ) : ℚ) < -((num : ℚ) / den) := by linarith
  have hhigh : -((num : ℚ) / den) < (-((num / den : ℕ) + 1 : ℤ) : ℤ) + 1 := by linarith
  have hpart : -((num : ℚ) / den) - (-((num / den : ℕ) + 1 : ℤ) : ℤ) = 1 - (num % den : ℕ) / den := by linarith
  cases mode
  case rn =>
    have hbelow : 1 - ((num % den : ℕ) : ℚ) / den < 1 / 2 ↔ den < 2 * (num % den) := by
      rw [← half_lt_remainder_iff hden]
      constructor <;> intro <;> linarith
    have hhalf : 1 - ((num % den : ℕ) : ℚ) / den = 1 / 2 ↔ 2 * (num % den) = den := by
      rw [← remainder_eq_half_iff hden]
      constructor <;> intro <;> linarith
    simp only [roundToInt_rn_between hlow hhigh, roundChoice_rn _ _ _ hden, hpart, hbelow, hhalf]
    split_ifs <;> omega
  case rz =>
    have hneg : -((num : ℚ) / den) < 0 := by
      rw [ratio_eq_add hden]
      linarith [(Nat.cast_nonneg (num / den) : (0 : ℚ) ≤ (num / den : ℕ))]
    rw [roundToInt_rz_between hlow hhigh, roundChoice_rz, if_pos hneg]
    ring
  case rp =>
    rw [roundToInt_rp_between hlow hhigh, roundChoice_rp, if_neg (by simp)]
    ring
  case rm => rw [roundToInt_rm_between hlow hhigh, roundChoice_rm, if_pos ⟨rfl, hrem⟩, Nat.cast_succ]

/-- The choice of R111 is the rounding of the number it is made for. -/
theorem roundToInt_ratio (mode : RoundingMode) (s : Bool) :
    roundToInt mode (signUnit s * ((num : ℚ) / den)) =
      signUnit s * (roundChoice mode s (num / den) (remainderOf num den) : ℤ) := by
  by_cases hr : num % den = 0
  · have hint := roundToInt_intCast mode (signUnit s * (num / den : ℕ))
    rw [Int.cast_mul, Int.cast_natCast] at hint
    rw [ratio_eq_div hden hr, (remainderOf_eq_zero_iff num den).mpr hr, roundChoice_zero, hint]
  · cases s
    · simpa using roundToInt_ratio_pos hden mode hr
    · simpa using roundToInt_ratio_neg hden mode hr

/-- The remainder is zero just when the choice is the number itself. -/
theorem roundChoice_eq_ratio_iff (mode : RoundingMode) (s : Bool) :
    (roundChoice mode s (num / den) (remainderOf num den) : ℚ) = (num : ℚ) / den ↔ remainderOf num den = .zero := by
  constructor
  · intro h
    rw [eq_div_iff (by positivity)] at h
    have hmul : roundChoice mode s (num / den) (remainderOf num den) * den = num := mod_cast h
    rw [remainderOf_eq_zero_iff]
    exact Nat.mod_eq_zero_of_dvd ⟨_, (mul_comm _ _).trans hmul |>.symm⟩
  · intro h
    rw [h, roundChoice_zero, ratio_eq_div hden ((remainderOf_eq_zero_iff num den).mp h)]

end

end Sys2Proof.Machine
end

section
/-! `roundRatio` delivers the rounding of R110 to R116 that `IsRounding` states over the rational numbers: the whole part
and remainder of the fraction at a place are its rounding to a multiple of that place, and the fields built from them
have that multiple as their magnitude. -/

namespace Sys2Proof.Machine

/-! Powers of two and signs -/

theorem two_zpow_le_iff {q : ℚ} (hq : 0 < q) {e : ℤ} : (2 : ℚ) ^ e ≤ q ↔ e ≤ Int.log 2 q :=
  Int.zpow_le_iff_le_log one_lt_two hq

theorem lt_two_zpow_iff {q : ℚ} (hq : 0 < q) {e : ℤ} : q < (2 : ℚ) ^ e ↔ Int.log 2 q < e :=
  Int.lt_zpow_iff_log_lt one_lt_two hq

theorem natCast_two_pow_mul_zpow (k : Nat) (e : ℤ) : ((2 ^ k : ℕ) : ℚ) * 2 ^ e = 2 ^ (e + k) := by
  rw [Nat.cast_pow, Nat.cast_ofNat, ← zpow_natCast, ← zpow_add₀ two_ne_zero, add_comm]

theorem abs_signUnit_mul (s : Bool) (q : ℚ) : |(signUnit s : ℚ) * q| = |q| := by
  cases s <;> simp

theorem signUnit_mul_neg_iff (s : Bool) {q : ℚ} (hq : 0 < q) : (signUnit s : ℚ) * q < 0 ↔ s = true := by
  cases s <;> simp [hq, hq.le]

theorem intCast_eq_sign_mul (z : ℤ) : (z : ℚ) = signUnit (decide (z < 0)) * (z.natAbs : ℚ) := by
  have h : z = signUnit (decide (z < 0)) * z.natAbs := by
    by_cases hneg : z < 0
    · simp [hneg, abs_of_neg hneg]
    · simp [hneg, abs_of_nonneg (not_lt.mp hneg)]
  rw [← Int.cast_natCast z.natAbs, ← Int.cast_mul, ← h]

/-! A fraction at a place -/

theorem scaled_pos (num : Nat) {den : Nat} (hden : 0 < den) (e : ℤ) : 0 < (scaled num den e).2 := by
  cases e with
  | ofNat n => exact Nat.mul_pos hden (by positivity)
  | negSucc n => exact hden

theorem scaled_ratio (num den : Nat) (e : ℤ) :
    ((scaled num den e).1 : ℚ) / (scaled num den e).2 = (num : ℚ) / den / 2 ^ e := by
  cases e with
  | ofNat n => simp [scaled, div_div]
  | negSucc n => simp [scaled, zpow_negSucc, div_eq_mul_inv, mul_right_comm]

/-- The multiple of 2^e that the fraction with sign s is rounded to (R111). -/
def ratioSteps (mode : RoundingMode) (s : Bool) (num den : Nat) (e : ℤ) : Nat :=
  roundChoice mode s (placeRatio num den e).1 (placeRatio num den e).2

section
variable {num den : Nat} (hden : 0 < den) (mode : RoundingMode) (s : Bool)

theorem placeRatio_fst (num den : Nat) (e : ℤ) : (placeRatio num den e).1 = ⌊(num : ℚ) / den / 2 ^ e⌋₊ := by
  rw [← scaled_ratio, Nat.floor_div_eq_div]
  rfl

include hden

theorem roundToInt_place (e : ℤ) :
    roundToInt mode (signUnit s * ((num : ℚ) / den) / 2 ^ e) = signUnit s * (ratioSteps mode s num den e : ℤ) := by
  rw [mul_div_assoc, ← scaled_ratio]
  exact roundToInt_ratio (scaled_pos num hden e) mode s

theorem ratioSteps_eq_iff (e : ℤ) :
    (ratioSteps mode s num den e : ℚ) * 2 ^ e = (num : ℚ) / den ↔ (placeRatio num den e).2 = .zero := by
  rw [← eq_div_iff (by positivity), ← scaled_ratio]
  exact roundChoice_eq_ratio_iff (scaled_pos num hden e) mode s

theorem roundedAt_ratio (L : Layout) (e : ℤ) : roundedAt L mode (signUnit s * ((num : ℚ) / den)) e =
    signUnit s * (ratioSteps mode s num den (e - L.fracBits) * 2 ^ (e - L.fracBits)) := by
  rw [roundedAt, roundToInt_place hden mode s]
  push_cast
  ring

omit hden

theorem le_ratioSteps {n : Nat} {e : ℤ} (h : (n : ℚ) * 2 ^ e ≤ (num : ℚ) / den) : n ≤ ratioSteps mode s num den e := by
  refine le_trans ?_ (roundChoice_bounds mode s _ _).1
  rw [placeRatio_fst]
  exact Nat.le_floor ((le_div_iff₀ (by positivity)).mpr h)

theorem ratioSteps_le {n : Nat} {e : ℤ} (h : (num : ℚ) / den < (n : ℚ) * 2 ^ e) : ratioSteps mode s num den e ≤ n := by
  refine le_trans (roundChoice_bounds mode s _ _).2 (Nat.succ_le_of_lt ?_)
  rw [placeRatio_fst]
  exact (Nat.floor_lt (by positivity)).mpr ((div_lt_iff₀ (by positivity)).mpr h)

end

section
variable {num den : Nat} (hnum : 0 < num) (hden : 0 < den)
include hnum hden

theorem floorLog2_eq_log : floorLog2 num den = Int.log 2 ((num : ℚ) / den) := by
  have hpos : (0 : ℚ) < (num : ℚ) / den := by positivity
  set a := Nat.log2 num with ha
  set b := Nat.log2 den with hb
  have hnum_le : (2 : ℚ) ^ (a : ℤ) ≤ num := mod_cast Nat.log2_self_le hnum.ne'
  have hnum_lt : (num : ℚ) < 2 ^ (a + 1 : ℤ) := mod_cast Nat.lt_log2_self
  have hden_le : (2 : ℚ) ^ (b : ℤ) ≤ den := mod_cast Nat.log2_self_le hden.ne'
  have hden_lt : (den : ℚ) < 2 ^ (b + 1 : ℤ) := mod_cast Nat.lt_log2_self
  have hlow : (a : ℤ) - b - 1 ≤ Int.log 2 ((num : ℚ) / den) := by
    rw [← two_zpow_le_iff hpos, le_div_iff₀ (by positivity)]
    calc (2 : ℚ) ^ ((a : ℤ) - b - 1) * den ≤ 2 ^ ((a : ℤ) - b - 1) * 2 ^ (b + 1 : ℤ) := by gcongr
      _ = 2 ^ (a : ℤ) := by
        rw [← zpow_add₀ (by norm_num)]
        congr 1
        ring
      _ ≤ num := hnum_le
  have hhigh : Int.log 2 ((num : ℚ) / den) < (a : ℤ) - b + 1 := by
    rw [← lt_two_zpow_iff hpos, div_lt_iff₀ (by positivity)]
    calc (num : ℚ) < 2 ^ (a + 1 : ℤ) := hnum_lt
      _ = 2 ^ ((a : ℤ) - b + 1) * 2 ^ (b : ℤ) := by
        rw [← zpow_add₀ (by norm_num)]
        congr 1
        ring
      _ ≤ 2 ^ ((a : ℤ) - b + 1) * den := by gcongr
  have hmid : (scaled num den ((a : ℤ) - b)).2 ≤ (scaled num den ((a : ℤ) - b)).1 ↔
      (a : ℤ) - b ≤ Int.log 2 ((num : ℚ) / den) := by
    have hq : (0 : ℚ) < (scaled num den ((a : ℤ) - b)).2 := mod_cast scaled_pos num hden _
    rw [← two_zpow_le_iff hpos, ← Nat.cast_le (α := ℚ), ← one_le_div hq, scaled_ratio,
      one_le_div (by positivity)]
  simp only [floorLog2, ← ha, ← hb, hmid]
  split_ifs <;> omega

theorem ratioSteps_le_carry (mode : RoundingMode) (s : Bool) (L : Layout) {e : ℤ} (he : floorLog2 num den ≤ e) :
    ratioSteps mode s num den (e - L.fracBits) ≤ 2 ^ (L.fracBits + 1) := by
  rw [floorLog2_eq_log hnum hden] at he
  have hlog : (num : ℚ) / den < 2 ^ (e + 1) := (lt_two_zpow_iff (by positivity)).mpr (by omega)
  refine ratioSteps_le mode s ?_
  rwa [natCast_two_pow_mul_zpow, Nat.cast_succ, ← add_assoc, sub_add_cancel]

theorem le_ratioSteps_normal (mode : RoundingMode) (s : Bool) (L : Layout) {e : ℤ} (he : e ≤ floorLog2 num den) :
    2 ^ L.fracBits ≤ ratioSteps mode s num den (e - L.fracBits) := by
  rw [floorLog2_eq_log hnum hden] at he
  have hlog : (2 : ℚ) ^ e ≤ (num : ℚ) / den := (two_zpow_le_iff (by positivity)).mpr he
  refine le_ratioSteps mode s ?_
  rwa [natCast_two_pow_mul_zpow, sub_add_cancel]

end

/-! The rounded result -/

/-- The exponent a fraction is rounded at (R110). -/
def roundedExp (L : Layout) (num den : Nat) : ℤ := max (floorLog2 num den) (minExp L)

/-- The exponent and fraction fields of the rounded fraction, exponents unbounded above (R110). -/
def roundedFields (L : Layout) (mode : RoundingMode) (s : Bool) (num den : Nat) : Nat :=
  (roundedExp L num den - minExp L).toNat * 2 ^ L.fracBits +
    ratioSteps mode s num den (roundedExp L num den - L.fracBits)

/-- The fraction is not a multiple of its last place. -/
def inexactRatio (L : Layout) (num den : Nat) : Bool :=
  (placeRatio num den (roundedExp L num den - L.fracBits)).2 != .zero

/-- The fraction is tiny (R116). -/
def tinyRatio (L : Layout) (c : Config) (mode : RoundingMode) (s : Bool) (num den : Nat) : Bool :=
  decide (floorLog2 num den < minExp L) && !(c.tininessAfterRounding && floorLog2 num den == minExp L - 1 &&
    ratioSteps mode s num den (floorLog2 num den - L.fracBits) == 2 ^ (L.fracBits + 1))

variable {L : Layout} {w : Nat}

theorem roundRatio_overflow {c : Config} {f : Fcsr} {s : Bool} {num den : Nat}
    (h : infFields L ≤ roundedFields L f.rm s num den) :
    roundRatio L w c f s num den = ⟨overflowResult L w f.rm s, condOI, false⟩ :=
  if_pos h

theorem roundRatio_finite {c : Config} {f : Fcsr} {s : Bool} {num den : Nat}
    (h : roundedFields L f.rm s num den < infFields L) :
    roundRatio L w c f s num den = ⟨packBits w s (roundedFields L f.rm s num den),
      condUI (tinyRatio L c f.rm s num den && (inexactRatio L num den || f.enables.u)) (inexactRatio L num den),
      tinyRatio L c f.rm s num den⟩ :=
  if_neg (not_le.mpr h)

/-! The value of a pattern -/

theorem Layout.Fits.bias_pos (hL : L.Fits w) : 0 < bias L := by
  have he := hL.two_le_exp
  have : 2 ^ 1 ≤ 2 ^ (L.expBits - 1) := Nat.pow_le_pow_right (by decide) (by omega)
  rw [bias]
  omega

theorem unitsPerOne_eq_zpow (hL : L.Fits w) : (unitsPerOne L : ℚ) = 2 ^ ((L.fracBits : ℤ) - minExp L) := by
  have hb := hL.bias_pos
  have he : (L.fracBits : ℤ) - minExp L = (bias L + L.fracBits - 1 : ℕ) := by
    rw [minExp]
    omega
  rw [he, unitsPerOne, Nat.cast_pow, zpow_natCast, Nat.cast_ofNat]

theorem unitsPerOne_pos (L : Layout) : (0 : ℚ) < unitsPerOne L := by
  rw [unitsPerOne]
  positivity

/-- The magnitude with the given exponent and fraction fields. -/
def fieldsValue (L : Layout) (n : Nat) : ℚ := (fieldsMagnitude L n : ℚ) / (unitsPerOne L : ℚ)

theorem fieldsValue_nonneg (L : Layout) (n : Nat) : 0 ≤ fieldsValue L n := by
  rw [fieldsValue]
  positivity

theorem fieldsValue_lt_iff (L : Layout) {m n : Nat} : fieldsValue L m < fieldsValue L n ↔ m < n := by
  rw [fieldsValue, fieldsValue, div_lt_div_iff_of_pos_right (unitsPerOne_pos L), Nat.cast_lt,
    (fieldsMagnitude_strictMono L).lt_iff_lt]

theorem fpValue_eq (hL : L.Fits w) (x : BitVec w) : fpValue L x = signUnit (signBit x) * fieldsValue L (fields x) := by
  rw [fpValue, fieldsValue, signedMagnitude, magnitude_eq_fields hL]
  cases signBit x <;> simp [neg_div]

theorem fpValue_packBits (hL : L.Fits w) (s : Bool) {n : Nat} (hn : n < 2 ^ (w - 1)) :
    fpValue L (packBits w s n) = signUnit s * fieldsValue L n := by
  rw [fpValue_eq hL, signBit_packBits hL.width_pos s hn, fields_packBits hL.width_pos s hn]

/-- The value of n at the place 2^k above the last one of the denormalized range. -/
theorem fieldsValue_place (hL : L.Fits w) {k n : Nat} (hn : n ≤ 2 ^ (L.fracBits + 1)) (hk : k = 0 ∨ 2 ^ L.fracBits ≤ n) :
    fieldsValue L (k * 2 ^ L.fracBits + n) = n * 2 ^ (k + minExp L - L.fracBits) := by
  rw [fieldsValue, fieldsMagnitude_place L hn hk, unitsPerOne_eq_zpow hL, Nat.cast_mul, Nat.cast_pow, ← zpow_natCast,
    Nat.cast_ofNat, mul_div_assoc, ← zpow_sub₀ (by norm_num), sub_sub_eq_add_sub]

theorem fpValue_maxNormal (hL : L.Fits w) : fpValue L (maxNormal L w false) = fieldsValue L (infFields L - 1) := by
  rw [maxNormal, fpValue_packBits hL _ (lt_of_le_of_lt (Nat.sub_le _ _) hL.infFields_lt)]
  simp

theorem overflowResult_eq (L : Layout) (w : Nat) (mode : RoundingMode) (s : Bool) :
    overflowResult L w mode s = if overflowsToInf mode s then infinity L w s else maxNormal L w s := by
  cases mode <;> cases s <;> rfl

/-! The result against `IsRounding` -/

section
variable {num den : Nat} (hnum : 0 < num) (hden : 0 < den) (mode : RoundingMode) (s : Bool)
include hnum hden

/-- Rounded with an unbounded exponent range the fraction is below the normalized range unless it lies in it, or lies
just below and carries into it. -/
theorem ratioSteps_lt_normal_iff (L : Layout) :
    ratioSteps mode s num den (floorLog2 num den - L.fracBits) * (2 : ℚ) ^ (floorLog2 num den - L.fracBits) <
        2 ^ minExp L ↔
      floorLog2 num den < minExp L ∧ ¬ (floorLog2 num den = minExp L - 1 ∧
        ratioSteps mode s num den (floorLog2 num den - L.fracBits) = 2 ^ (L.fracBits + 1)) := by
  have hhigh := ratioSteps_le_carry hnum hden mode s L (le_refl (floorLog2 num den))
  have hlow := le_ratioSteps_normal hnum hden mode s L (le_refl (floorLog2 num den))
  generalize ratioSteps mode s num den (floorLog2 num den - L.fracBits) = n at hhigh hlow ⊢
  generalize floorLog2 num den = e
  rcases lt_trichotomy e (minExp L - 1) with he | he | he
  · have hlt : (n : ℚ) * 2 ^ (e - L.fracBits) < 2 ^ minExp L := by
      calc (n : ℚ) * 2 ^ (e - L.fracBits) ≤ ((2 ^ (L.fracBits + 1) : ℕ) : ℚ) * 2 ^ (e - L.fracBits) := by gcongr
        _ = 2 ^ (e + 1) := by rw [natCast_two_pow_mul_zpow, Nat.cast_succ, ← add_assoc, sub_add_cancel]
        _ < 2 ^ minExp L := zpow_lt_zpow_right₀ one_lt_two (by omega)
    simp only [hlt, true_iff]
    omega
  · have hcarry : ((2 ^ (L.fracBits + 1) : ℕ) : ℚ) * 2 ^ (e - L.fracBits) = 2 ^ minExp L := by
      rw [natCast_two_pow_mul_zpow, Nat.cast_succ, ← add_assoc, sub_add_cancel, he, sub_add_cancel]
    rw [← hcarry, mul_lt_mul_iff_left₀ (by positivity), Nat.cast_lt]
    omega
  · have hge : 2 ^ minExp L ≤ (n : ℚ) * 2 ^ (e - L.fracBits) := by
      calc (2 : ℚ) ^ minExp L ≤ 2 ^ e := zpow_le_zpow_right₀ one_le_two (by omega)
        _ = ((2 ^ L.fracBits : ℕ) : ℚ) * 2 ^ (e - L.fracBits) := by rw [natCast_two_pow_mul_zpow, sub_add_cancel]
        _ ≤ (n : ℚ) * 2 ^ (e - L.fracBits) := by gcongr
    simp only [not_lt.mpr hge, false_iff]
    omega

theorem isTiny_ratio (L : Layout) (c : Config) :
    isTiny L c mode (signUnit s * ((num : ℚ) / den)) = tinyRatio L c mode s num den := by
  have hpos : (0 : ℚ) < (num : ℚ) / den := by positivity
  have hlog := floorLog2_eq_log hnum hden
  have hsteps := ratioSteps_lt_normal_iff hnum hden mode s L
  simp only [isTiny, tinyRatio, abs_signUnit_mul, abs_of_pos hpos, ← hlog, roundedAt_ratio hden]
  rw [abs_of_nonneg (by positivity), Bool.eq_iff_iff]
  cases c.tininessAfterRounding with
  | true => simpa [imp_iff_not_or] using hsteps
  | false => simpa [hlog] using lt_two_zpow_iff hpos

variable {L : Layout} {w : Nat} (hL : L.Fits w)
include hL

theorem fieldsValue_roundedFields : fieldsValue L (roundedFields L mode s num den) =
    ratioSteps mode s num den (roundedExp L num den - L.fracBits) * 2 ^ (roundedExp L num den - L.fracBits) := by
  have hle : floorLog2 num den ≤ roundedExp L num den := le_max_left _ _
  have hk : ((roundedExp L num den - minExp L).toNat : ℤ) = roundedExp L num den - minExp L :=
    Int.toNat_of_nonneg (sub_nonneg.mpr (le_max_right _ _))
  have hplace : (roundedExp L num den - minExp L).toNat = 0 ∨
      2 ^ L.fracBits ≤ ratioSteps mode s num den (roundedExp L num den - L.fracBits) := by
    rcases le_or_gt (floorLog2 num den) (minExp L) with h | h
    · exact .inl (by rw [roundedExp, max_eq_right h]; simp)
    · exact .inr (le_ratioSteps_normal hnum hden mode s L (by rw [roundedExp, max_eq_left h.le]))
  rw [roundedFields, fieldsValue_place hL (ratioSteps_le_carry hnum hden mode s L hle) hplace, hk, sub_add_cancel]

theorem roundedAt_eq_fieldsValue : roundedAt L mode (signUnit s * ((num : ℚ) / den)) (roundedExp L num den) =
    signUnit s * fieldsValue L (roundedFields L mode s num den) := by
  rw [roundedAt_ratio hden, fieldsValue_roundedFields hnum hden mode s hL]

theorem fieldsValue_roundedFields_eq_iff :
    fieldsValue L (roundedFields L mode s num den) = (num : ℚ) / den ↔ inexactRatio L num den = false := by
  rw [fieldsValue_roundedFields hnum hden mode s hL, ratioSteps_eq_iff hden, inexactRatio, bne_eq_false_iff_eq]

theorem roundedAt_ne_iff : roundedAt L mode (signUnit s * ((num : ℚ) / den)) (roundedExp L num den) ≠
    signUnit s * ((num : ℚ) / den) ↔ inexactRatio L num den = true := by
  have hs : (signUnit s : ℚ) ≠ 0 := Int.cast_ne_zero.mpr (signUnit_ne_zero s)
  rw [roundedAt_eq_fieldsValue hnum hden mode s hL, ne_eq, mul_right_inj' hs,
    fieldsValue_roundedFields_eq_iff hnum hden mode s hL, Bool.not_eq_false]

/-- `roundRatio` rounds the signed fraction. -/
theorem isRounding_roundRatio (c : Config) (f : Fcsr) : IsRounding L c f (signUnit s * ((num : ℚ) / den))
    (roundRatio L w c f s num den).bits (roundRatio L w c f s num den).conds := by
  have hpos : (0 : ℚ) < (num : ℚ) / den := by positivity
  have hsign : decide ((signUnit s : ℚ) * ((num : ℚ) / den) < 0) = s := by
    rw [Bool.eq_iff_iff, decide_eq_true_iff, signUnit_mul_neg_iff s hpos]
  have hexp : max (Int.log 2 |(signUnit s : ℚ) * ((num : ℚ) / den)|) (minExp L) = roundedExp L num den := by
    rw [abs_signUnit_mul, abs_of_pos hpos, roundedExp, floorLog2_eq_log hnum hden]
  have hat := roundedAt_eq_fieldsValue hnum hden f.rm s hL
  have hover : fpValue L (maxNormal L w false) <
      |roundedAt L f.rm (signUnit s * ((num : ℚ) / den)) (roundedExp L num den)| ↔
        infFields L ≤ roundedFields L f.rm s num den := by
    have := hL.infFields_pos
    rw [hat, abs_signUnit_mul, abs_of_nonneg (fieldsValue_nonneg L _), fpValue_maxNormal hL, fieldsValue_lt_iff]
    omega
  have hinexact : decide (roundedAt L f.rm (signUnit s * ((num : ℚ) / den)) (roundedExp L num den) ≠
      signUnit s * ((num : ℚ) / den)) = inexactRatio L num den := by
    rw [Bool.eq_iff_iff, decide_eq_true_iff, roundedAt_ne_iff hnum hden f.rm s hL]
  simp only [IsRounding, hexp, hsign, hover, hinexact, isTiny_ratio hnum hden f.rm s L c]
  rcases le_or_gt (infFields L) (roundedFields L f.rm s num den) with h | h
  · rw [if_pos h, roundRatio_overflow h]
    exact ⟨rfl, overflowResult_eq _ _ _ _⟩
  · rw [if_neg (not_le.mpr h)]
    have hlt := h.trans hL.infFields_lt
    obtain ⟨hnan, hinf⟩ := (finite_iff hL (packBits w s (roundedFields L f.rm s num den))).mpr
      (by rwa [fields_packBits hL.width_pos s hlt])
    rw [roundRatio_finite h]
    exact ⟨hnan, hinf, signBit_packBits hL.width_pos s hlt, (fpValue_packBits hL s hlt).trans hat.symm, rfl⟩

end

theorem signUnit_cast (s : Bool) : (signUnit s : ℚ) = if s then -1 else 1 := by
  cases s <;> simp

/-- Settles O60: `isRounding_roundRatio` for both formats, and the patterns of an overflow. -/
theorem roundingOfExactValues : Obligations.RoundingOfExactValues := by
  refine ⟨fun c f s num den hnum hden => ?_, rfl, rfl, rfl, rfl, rfl, rfl, rfl, rfl⟩
  simp only [← signUnit_cast]
  exact ⟨isRounding_roundRatio hnum hden s single_fits c f, isRounding_roundRatio hnum hden s double_fits c f⟩

end Sys2Proof.Machine
end

section
/-! A value of the format rounds to itself (R110, R114): it is a multiple of every place at or below its own, so nothing is
rounded, and its sign and magnitude determine its pattern. -/

namespace Sys2Proof.Machine

variable {L : Layout} {w : Nat}

/-! Multiples of a place -/

theorem roundedAt_multiple (L : Layout) (mode : RoundingMode) (z : ℤ) {e p : ℤ} (h : e ≤ p) :
    roundedAt L mode (z * 2 ^ (p - L.fracBits)) e = z * 2 ^ (p - L.fracBits) := by
  have hk : ((p - e).toNat : ℤ) = p - e := Int.toNat_of_nonneg (sub_nonneg.mpr h)
  have hz : (z : ℚ) * 2 ^ (p - L.fracBits) = (z * 2 ^ (p - e).toNat : ℤ) * 2 ^ (e - L.fracBits) := by
    rw [Int.cast_mul, Int.cast_pow, Int.cast_ofNat, mul_assoc, ← zpow_natCast, hk, ← zpow_add₀ two_ne_zero]
    congr 2
    ring
  rw [hz, roundedAt, mul_div_cancel_right₀ _ (by positivity), roundToInt_intCast]

/-! The exponent of a pattern -/

theorem fpValue_neg_iff (hL : L.Fits w) {x : BitVec w} (hx : 0 < fields x) : fpValue L x < 0 ↔ signBit x = true := by
  rw [fpValue_eq hL]
  refine signUnit_mul_neg_iff _ ?_
  exact lt_of_le_of_lt (fieldsValue_nonneg L 0) ((fieldsValue_lt_iff L).mpr hx)

theorem abs_fpValue (hL : L.Fits w) (x : BitVec w) : |fpValue L x| = fieldsValue L (fields x) := by
  rw [fpValue_eq hL, abs_signUnit_mul, abs_of_nonneg (fieldsValue_nonneg L _)]

theorem fpValue_eq_ratio (hL : L.Fits w) (x : BitVec w) :
    fpValue L x = signUnit (signBit x) * ((magnitude L x : ℚ) / (unitsPerOne L : ℚ)) := by
  rw [fpValue_eq hL, fieldsValue, magnitude_eq_fields hL]

theorem fpValue_injective (hL : L.Fits w) {x y : BitVec w} (hs : signBit x = signBit y)
    (hv : fpValue L x = fpValue L y) : x = y := by
  refine pattern_ext hL.width_pos hs (StrictMono.injective (fun m n h => (fieldsValue_lt_iff L).mpr h) ?_)
  rw [← abs_fpValue hL, ← abs_fpValue hL, hv]

/-- A non-zero pattern is a multiple of a place that is no finer than its own exponent and the denormalized one ask. -/
theorem exists_fpValue_multiple (hL : L.Fits w) {x : BitVec w} (hx : 0 < fields x) :
    ∃ z p : ℤ, fpValue L x = z * 2 ^ (p - L.fracBits) ∧ Int.log 2 |fpValue L x| ≤ p ∧ minExp L ≤ p := by
  obtain ⟨k, n, hn, hk, hfields⟩ := exists_place L (fields x)
  have hvalue : fieldsValue L (fields x) = n * 2 ^ ((k : ℤ) + minExp L - L.fracBits) := by
    rw [hfields, fieldsValue_place hL hn.le hk]
  have hpos : 0 < fieldsValue L (fields x) := lt_of_le_of_lt (fieldsValue_nonneg L 0) ((fieldsValue_lt_iff L).mpr hx)
  refine ⟨signUnit (signBit x) * n, k + minExp L, ?_, ?_, by omega⟩
  · rw [fpValue_eq hL, hvalue]
    push_cast
    ring
  · rw [abs_fpValue hL, ← Int.lt_add_one_iff, ← lt_two_zpow_iff hpos, hvalue]
    calc (n : ℚ) * 2 ^ ((k : ℤ) + minExp L - L.fracBits)
        < (2 ^ (L.fracBits + 1) : ℕ) * 2 ^ ((k : ℤ) + minExp L - L.fracBits) := by gcongr
      _ = 2 ^ ((k : ℤ) + minExp L + 1) := by rw [natCast_two_pow_mul_zpow, Nat.cast_succ, ← add_assoc, sub_add_cancel]

theorem roundedAt_fpValue (hL : L.Fits w) {x : BitVec w} (hx : 0 < fields x) (mode : RoundingMode) {e : ℤ}
    (he : e ≤ max (Int.log 2 |fpValue L x|) (minExp L)) : roundedAt L mode (fpValue L x) e = fpValue L x := by
  obtain ⟨z, p, hv, hlog, hmin⟩ := exists_fpValue_multiple hL hx
  rw [hv] at hlog he ⊢
  exact roundedAt_multiple L mode z (he.trans (max_le hlog hmin))

/-! The tiny patterns -/

theorem fieldsValue_normal (hL : L.Fits w) : fieldsValue L (2 ^ L.fracBits) = 2 ^ minExp L := by
  have h := fieldsValue_place hL (k := 0) (n := 2 ^ L.fracBits) (Nat.pow_le_pow_right (by decide) (by omega)) (.inl rfl)
  rw [Nat.zero_mul, Nat.zero_add, natCast_two_pow_mul_zpow, sub_add_cancel] at h
  simpa using h

theorem isTiny_fpValue (hL : L.Fits w) {x : BitVec w} (hx : 0 < fields x) (c : Config) (mode : RoundingMode) :
    isTiny L c mode (fpValue L x) = isDenorm L x := by
  have hsmall : |fpValue L x| < 2 ^ minExp L ↔ isDenorm L x = true := by
    rw [abs_fpValue hL, ← fieldsValue_normal hL, fieldsValue_lt_iff, isDenorm_iff hL]
    exact (and_iff_right hx).symm
  rw [Bool.eq_iff_iff, ← hsmall, isTiny, roundedAt_fpValue hL hx mode (le_max_left _ _)]
  split <;> exact decide_eq_true_iff

/-! The obligation -/

theorem roundRatio_representable (hL : L.Fits w) (c : Config) (f : Fcsr) {x : BitVec w} (hx : 0 < fields x)
    (hfinite : fields x < infFields L) :
    (roundRatio L w c f (signBit x) (magnitude L x) (unitsPerOne L)).bits = x ∧
      (roundRatio L w c f (signBit x) (magnitude L x) (unitsPerOne L)).conds =
        condUI (isDenorm L x && f.enables.u) false := by
  have hnum : 0 < magnitude L x := by
    rw [magnitude_eq_fields hL, ← fieldsMagnitude_zero L]
    exact fieldsMagnitude_strictMono L hx
  have hround := isRounding_roundRatio hnum (Nat.cast_pos.mp (unitsPerOne_pos L)) (signBit x) hL c f
  rw [← fpValue_eq_ratio hL] at hround
  have hbound : ¬ fpValue L (maxNormal L w false) < |fpValue L x| := by
    rw [fpValue_maxNormal hL, abs_fpValue hL, fieldsValue_lt_iff]
    omega
  have hsign : decide (fpValue L x < 0) = signBit x := by
    rw [Bool.eq_iff_iff, decide_eq_true_iff, fpValue_neg_iff hL hx]
  simp only [IsRounding, roundedAt_fpValue hL hx f.rm le_rfl, hbound, if_false, hsign, isTiny_fpValue hL hx] at hround
  obtain ⟨-, -, hs, hv, hconds⟩ := hround
  exact ⟨fpValue_injective hL hs hv, by simpa using hconds⟩

theorem fields_pos_iff (hL : L.Fits w) (x : BitVec w) : 0 < fields x ↔ isZero L x = false := by
  rw [← Bool.not_eq_true, isZero_iff hL, Nat.pos_iff_ne_zero]

/-- Settles O52: `roundRatio_representable` for both formats. -/
theorem representableValuesRoundToThemselves : Obligations.RepresentableValuesRoundToThemselves := by
  refine fun c f => ⟨fun x hnan hinf hz => ?single, fun x hnan hinf hz => ?double⟩
  case single =>
    exact roundRatio_representable single_fits c f ((fields_pos_iff single_fits x).mpr hz)
      ((finite_iff single_fits x).mp ⟨hnan, hinf⟩)
  case double =>
    exact roundRatio_representable double_fits c f ((fields_pos_iff double_fits x).mpr hz)
      ((finite_iff double_fits x).mp ⟨hnan, hinf⟩)

end Sys2Proof.Machine
end

section
/-! What a half of CVT.PW.PS and of CVT.PS.PW delivers (R127, R128, R202, R205): the value of a half rounded to an integer,
and an integer rounded to format S. -/

namespace Sys2Proof.Machine

variable {L : Layout} {w : Nat}

/-! From S to a word -/

theorem unitsPerOne_nat_pos (L : Layout) : 0 < unitsPerOne L := Nat.cast_pos.mp (unitsPerOne_pos L)

/-- The magnitude of a pattern rounded to an integer. -/
def wholeSteps (L : Layout) (mode : RoundingMode) (x : BitVec w) : Nat :=
  ratioSteps mode (signBit x) (magnitude L x) (unitsPerOne L) 0

theorem roundToInt_fpValue (hL : L.Fits w) (mode : RoundingMode) (x : BitVec w) :
    roundToInt mode (fpValue L x) = signUnit (signBit x) * (wholeSteps L mode x : ℤ) := by
  have h := roundToInt_place (num := magnitude L x) (unitsPerOne_nat_pos L) mode (signBit x) 0
  rwa [zpow_zero, div_one, ← fpValue_eq_ratio hL] at h

theorem le_wholeSteps (mode : RoundingMode) {x : BitVec w} {n : Nat} (h : n * unitsPerOne L ≤ magnitude L x) :
    n ≤ wholeSteps L mode x := by
  refine le_ratioSteps mode _ ?_
  rw [zpow_zero, mul_one, le_div_iff₀ (unitsPerOne_pos L)]
  exact_mod_cast h

theorem wholeSteps_le (mode : RoundingMode) {x : BitVec w} {n : Nat} (h : magnitude L x < n * unitsPerOne L) :
    wholeSteps L mode x ≤ n := by
  refine ratioSteps_le mode _ ?_
  rw [zpow_zero, mul_one, div_lt_iff₀ (unitsPerOne_pos L)]
  exact_mod_cast h

theorem wholeSteps_eq (hL : L.Fits w) (mode : RoundingMode) {x : BitVec w} {n : Nat}
    (h : magnitude L x = n * unitsPerOne L) : wholeSteps L mode x = n := by
  have hvalue : fpValue L x = (signUnit (signBit x) * n : ℤ) := by
    rw [fpValue_eq_ratio hL, h, Nat.cast_mul, mul_div_cancel_right₀ _ (unitsPerOne_pos L).ne', Int.cast_mul,
      Int.cast_natCast]
  have hround := roundToInt_fpValue hL mode x
  rw [hvalue, roundToInt_intCast, mul_right_inj' (signUnit_ne_zero _)] at hround
  exact_mod_cast hround.symm

theorem placeRatio_exact_iff (hL : L.Fits w) (mode : RoundingMode) (x : BitVec w) :
    (placeRatio (magnitude L x) (unitsPerOne L) 0).2 = .zero ↔ (roundToInt mode (fpValue L x) : ℚ) = fpValue L x := by
  have hs : (signUnit (signBit x) : ℚ) ≠ 0 := Int.cast_ne_zero.mpr (signUnit_ne_zero _)
  rw [roundToInt_fpValue hL, fpValue_eq_ratio hL, Int.cast_mul, mul_right_inj' hs, Int.cast_natCast,
    ← ratioSteps_eq_iff (unitsPerOne_nat_pos L) mode (signBit x), zpow_zero, mul_one, wholeSteps]

theorem convertSW_special {x : BitVec 32} (h : isNaN single x = true ∨ isInf single x = true) (f : Fcsr) :
    convertSW f x = (invalidWord, condV) := by
  rw [← Bool.or_eq_true] at h
  exact if_pos h

theorem convertSW_finite {x : BitVec 32} (hnan : isNaN single x = false) (hinf : isInf single x = false) (f : Fcsr) :
    convertSW f x =
      if roundToInt f.rm (fpValue single x) < -2 ^ 31 ∨ 2 ^ 31 - 1 < roundToInt f.rm (fpValue single x) then
        (invalidWord, condV)
      else (BitVec.ofInt 32 (roundToInt f.rm (fpValue single x)),
        condUI false (decide ((roundToInt f.rm (fpValue single x) : ℚ) ≠ fpValue single x))) := by
  have hk : (if signBit x then -(wholeSteps single f.rm x : ℤ) else wholeSteps single f.rm x) =
      roundToInt f.rm (fpValue single x) := by
    rw [roundToInt_fpValue single_fits]
    cases signBit x <;> simp
  have hconds : (if (placeRatio (magnitude single x) (unitsPerOne single) 0).2 = .zero then noConds else condI) =
      condUI false (decide ((roundToInt f.rm (fpValue single x) : ℚ) ≠ fpValue single x)) := by
    simp only [placeRatio_exact_iff single_fits f.rm]
    split_ifs with h <;> simp [h, noConds, condI, condUI]
  simp only [convertSW, hnan, hinf, Bool.or_self, Bool.false_eq_true, if_false, hconds]
  rw [← hk]
  rfl

/-! The range of a word: 2^31 is the magnitude with the fields 0x4F000000 -/

theorem le_magnitude_iff (x : BitVec 32) : 2 ^ 180 ≤ magnitude single x ↔ 0x4F000000 ≤ fields x := by
  have h : fieldsMagnitude single 0x4F000000 = 2 ^ 180 := by norm_num [fieldsMagnitude, single]
  rw [magnitude_eq_fields single_fits, ← h, (fieldsMagnitude_strictMono single).le_iff_le]

theorem wholeSteps_lt {x : BitVec 32} (h : fields x < 0x4F000000) (mode : RoundingMode) :
    wholeSteps single mode x ≤ 2 ^ 31 - 1 := by
  refine wholeSteps_le mode ?_
  rw [magnitude_eq_fields single_fits]
  calc fieldsMagnitude single (fields x) ≤ fieldsMagnitude single 0x4EFFFFFF :=
        (fieldsMagnitude_strictMono single).monotone (by omega)
    _ < (2 ^ 31 - 1) * unitsPerOne single := by norm_num [fieldsMagnitude, single, unitsPerOne, bias]

theorem lt_wholeSteps {x : BitVec 32} (h : 0x4F000000 < fields x) (mode : RoundingMode) :
    2 ^ 31 + 1 ≤ wholeSteps single mode x := by
  refine le_wholeSteps mode ?_
  rw [magnitude_eq_fields single_fits]
  calc (2 ^ 31 + 1) * unitsPerOne single ≤ fieldsMagnitude single 0x4F000001 := by
        norm_num [fieldsMagnitude, single, unitsPerOne, bias]
    _ ≤ fieldsMagnitude single (fields x) := (fieldsMagnitude_strictMono single).monotone h

theorem wholeSteps_two_pow {x : BitVec 32} (h : fields x = 0x4F000000) (mode : RoundingMode) :
    wholeSteps single mode x = 2 ^ 31 := by
  refine wholeSteps_eq single_fits mode ?_
  have hmag : fieldsMagnitude single 0x4F000000 = 2 ^ 31 * unitsPerOne single := by
    norm_num [fieldsMagnitude, single, unitsPerOne, bias]
  rw [magnitude_eq_fields single_fits, h, hmag]

theorem wordOverflow_iff (mode : RoundingMode) (x : BitVec 32) :
    (roundToInt mode (fpValue single x) < -2 ^ 31 ∨ 2 ^ 31 - 1 < roundToInt mode (fpValue single x)) ↔
      2 ^ 180 ≤ magnitude single x ∧ x ≠ 0xCF000000#32 := by
  have hmin : x = 0xCF000000#32 ↔ signBit x = true ∧ fields x = 0x4F000000 :=
    ⟨by rintro rfl; exact ⟨rfl, rfl⟩, fun ⟨hs, hf⟩ => pattern_ext (by decide) hs hf⟩
  rw [roundToInt_fpValue single_fits, le_magnitude_iff, ne_eq, hmin]
  rcases lt_trichotomy (fields x) 0x4F000000 with h | h | h
  · have := wholeSteps_lt h mode
    cases signBit x <;> simp <;> omega
  · have := wholeSteps_two_pow h mode
    cases signBit x <;> simp <;> omega
  · have := lt_wholeSteps h mode
    cases signBit x <;> simp <;> omega

/-- The half is no number that rounds into the range of a word (R205). -/
def OutOfWord (x : BitVec 32) : Prop :=
  isNaN single x = true ∨ isInf single x = true ∨ (2 ^ 180 ≤ magnitude single x ∧ x ≠ 0xCF000000#32)

theorem convertSW_outOfWord {x : BitVec 32} (h : OutOfWord x) (f : Fcsr) : convertSW f x = (invalidWord, condV) := by
  by_cases hspecial : isNaN single x = true ∨ isInf single x = true
  · exact convertSW_special hspecial f
  · rw [not_or, Bool.not_eq_true, Bool.not_eq_true] at hspecial
    obtain ⟨hnan, hinf⟩ := hspecial
    have hrange := (wordOverflow_iff f.rm x).mpr (by simpa [OutOfWord, hnan, hinf] using h)
    rw [convertSW_finite hnan hinf, if_pos hrange]

theorem convertSW_inWord {x : BitVec 32} (h : ¬ OutOfWord x) (f : Fcsr) :
    (convertSW f x).1.toInt = roundToInt f.rm (fpValue single x) ∧
      (convertSW f x).2 = condUI false (decide ((roundToInt f.rm (fpValue single x) : ℚ) ≠ fpValue single x)) := by
  simp only [OutOfWord, not_or, Bool.not_eq_true, ← wordOverflow_iff f.rm] at h
  obtain ⟨hnan, hinf, hlow, hhigh⟩ := h
  rw [convertSW_finite hnan hinf, if_neg (by omega)]
  exact ⟨BitVec.toInt_ofInt_eq_self (by decide) (by omega) (by omega), rfl⟩

/-! From a word to S -/

/-- A fraction of at least the least normalized magnitude is not tiny. -/
theorem tinyRatio_eq_false {c : Config} {mode : RoundingMode} {s : Bool} {num den : Nat}
    (h : minExp L ≤ floorLog2 num den) : tinyRatio L c mode s num den = false := by
  rw [tinyRatio, decide_eq_false (not_lt.mpr h), Bool.false_and]

/-- A fraction below 2^bias does not overflow. -/
theorem roundedFields_lt_infFields (hL : L.Fits w) {mode : RoundingMode} {s : Bool} {num den : Nat} (hnum : 0 < num)
    (hden : 0 < den) (h : floorLog2 num den < bias L) : roundedFields L mode s num den < infFields L := by
  have hsteps := ratioSteps_le_carry hnum hden mode s L (le_max_left (floorLog2 num den) (minExp L))
  have hbias := hL.bias_pos
  have hmax : expMax L = 2 * bias L + 1 := by
    have hpow := Nat.two_pow_pred_mul_two (show 0 < L.expBits by have := hL.two_le_exp; omega)
    have hpos : 0 < 2 ^ (L.expBits - 1) := by positivity
    rw [expMax, bias]
    omega
  have hexp : (roundedExp L num den - minExp L).toNat + 2 < expMax L := by
    rw [roundedExp, minExp]
    omega
  calc roundedFields L mode s num den ≤
        (roundedExp L num den - minExp L).toNat * 2 ^ L.fracBits + 2 ^ (L.fracBits + 1) := Nat.add_le_add_left hsteps _
    _ = ((roundedExp L num den - minExp L).toNat + 2) * 2 ^ L.fracBits := by ring
    _ < infFields L := Nat.mul_lt_mul_of_pos_right hexp (by positivity)

/-- A fraction well inside the normalized range can only be inexact. -/
theorem roundRatio_conds_of_normal (hL : L.Fits w) (c : Config) (f : Fcsr) (s : Bool) {num den : Nat} (hnum : 0 < num)
    (hden : 0 < den) (hlow : minExp L ≤ floorLog2 num den) (hhigh : floorLog2 num den < bias L) :
    (roundRatio L w c f s num den).conds = condUI false (inexactRatio L num den) := by
  rw [roundRatio_finite (roundedFields_lt_infFields hL hnum hden hhigh), tinyRatio_eq_false hlow, Bool.false_and]

theorem toInt_eq_sign_mul (x : BitVec w) : (x.toInt : ℚ) = signUnit x.msb * ((x.toInt.natAbs : ℚ) / (1 : ℕ)) := by
  rw [Nat.cast_one, div_one, BitVec.msb_eq_toInt, ← intCast_eq_sign_mul]

theorem natAbs_toInt_pos {x : BitVec 32} (hx : x ≠ 0#32) : 0 < x.toInt.natAbs := by
  rw [Int.natAbs_pos]
  exact fun h => hx (BitVec.toInt_inj.mp (h.trans BitVec.toInt_zero.symm))

theorem floorLog2_word {x : BitVec 32} (hx : x ≠ 0#32) :
    minExp single ≤ floorLog2 x.toInt.natAbs 1 ∧ floorLog2 x.toInt.natAbs 1 < bias single := by
  have hpos := natAbs_toInt_pos hx
  have hlow := BitVec.le_toInt x
  have hhigh := BitVec.toInt_lt (x := x)
  have hle : x.toInt.natAbs ≤ 2 ^ 31 := by omega
  have hone : (1 : ℚ) ≤ x.toInt.natAbs := by exact_mod_cast hpos
  have hle' : (x.toInt.natAbs : ℚ) ≤ 2 ^ 31 := by exact_mod_cast hle
  have hratio : ((x.toInt.natAbs : ℚ) / (1 : ℕ)) = x.toInt.natAbs := by simp
  rw [floorLog2_eq_log hpos one_pos, hratio]
  constructor
  · rw [← two_zpow_le_iff (by linarith)]
    exact le_trans (zpow_le_one_of_nonpos₀ one_le_two (by decide)) hone
  · rw [← lt_two_zpow_iff (by linarith)]
    exact lt_of_le_of_lt hle' (by norm_num [bias, single])

section
variable {x : BitVec 32} (hx : x ≠ 0#32) {c : Config} {f : Fcsr}
include hx

/-! The rounded integer stands under a name of its own, which keeps the kernel from evaluating the rounding. -/

theorem convertWS_nonzero {r : Rounded 32} (hr : roundRatio single 32 c f x.msb x.toInt.natAbs 1 = r) :
    convertWS c f x = (r.bits, if c.cvtPsPwInexact then r.conds else noConds) := by
  subst hr
  exact if_neg hx

theorem convertWS_fst {r : Rounded 32} (hr : roundRatio single 32 c f x.msb x.toInt.natAbs 1 = r) :
    (convertWS c f x).1 = r.bits := by
  rw [convertWS_nonzero hx hr]

theorem convertWS_snd {r : Rounded 32} (hr : roundRatio single 32 c f x.msb x.toInt.natAbs 1 = r) :
    (convertWS c f x).2 = condUI false (inexactRatio single x.toInt.natAbs 1 && c.cvtPsPwInexact) := by
  obtain ⟨hlow, hhigh⟩ := floorLog2_word hx
  have hconds := roundRatio_conds_of_normal single_fits c f x.msb (natAbs_toInt_pos hx) one_pos hlow hhigh
  rw [hr] at hconds
  rw [convertWS_nonzero hx hr, hconds]
  cases c.cvtPsPwInexact <;> simp [noConds, condUI]

end

theorem isRounding_convertWS {x : BitVec 32} (hx : x ≠ 0#32) (c : Config) (f : Fcsr) :
    IsRounding single c f (x.toInt : ℚ) (convertWS c f x).1 (condUI false (inexactRatio single x.toInt.natAbs 1)) := by
  obtain ⟨hlow, hhigh⟩ := floorLog2_word hx
  have hround := isRounding_roundRatio (natAbs_toInt_pos hx) one_pos x.msb single_fits c f
  rw [roundRatio_conds_of_normal single_fits c f x.msb (natAbs_toInt_pos hx) one_pos hlow hhigh,
    ← toInt_eq_sign_mul, ← convertWS_fst hx rfl] at hround
  exact hround

/-! The obligation -/

theorem convertSW_invalid_iff (f : Fcsr) (x : BitVec 32) : (convertSW f x).2.v = true ↔ OutOfWord x := by
  by_cases h : OutOfWord x
  · simp [convertSW_outOfWord h, condV, h]
  · simp [(convertSW_inWord h f).2, condUI, h]

/-- Settles O54: a half is out of the range of a word or is rounded, and a word is a fraction over 1 in the normalized
range. -/
theorem conversionResults : Obligations.ConversionResults := by
  intro c f x
  refine ⟨convertSW_invalid_iff f x, fun hv => ?default, fun hv => ?rounded, rfl, fun hx => ?single⟩
  case default => exact convertSW_outOfWord ((convertSW_invalid_iff f x).mp hv) f
  case rounded =>
    rw [← Bool.not_eq_true, convertSW_invalid_iff] at hv
    exact convertSW_inWord hv f
  case single => exact ⟨inexactRatio single x.toInt.natAbs 1, isRounding_convertWS hx c f, convertWS_snd hx rfl⟩

end Sys2Proof.Machine
end

section
/-! Addition and multiplication of S values, class of operands by class (R109 to R118): one equation for each branch of
`addS` and `mulS`. -/

namespace Sys2Proof.Machine

/-! NaN operands -/

theorem isQNaN_qnanDefaultS (c : Config) : isQNaN c.nan2008 single (qnanDefaultS c) = true := by
  have hencoding : ∀ n, isQNaN n single (qnanOfEncodingS n) = true := by decide
  unfold qnanDefaultS
  split
  · next h => exact h
  · exact hencoding _

section
variable {L : Layout} {w : Nat} {n : Bool} {x : BitVec w}

theorem isNaN_of_isSNaN (h : isSNaN n L x = true) : isNaN L x = true := by
  rw [isSNaN, Bool.and_eq_true] at h
  exact h.1

theorem isQNaN_of_isNaN (h : isNaN L x = true) (hs : isSNaN n L x = false) : isQNaN n L x = true := by
  simpa [isQNaN, isSNaN, h] using hs

end

theorem nanOperands_signaling {c : Config} {op : ArithOp} {a b : BitVec 32}
    (h : isSNaN c.nan2008 single a = true ∨ isSNaN c.nan2008 single b = true) :
    nanOperands c op a b = (qnanDefaultS c, condV) := by
  rw [← Bool.or_eq_true] at h
  exact if_pos h

theorem nanOperands_quiet {c : Config} {op : ArithOp} {a b : BitVec 32} (ha : isSNaN c.nan2008 single a = false)
    (hb : isSNaN c.nan2008 single b = false) : nanOperands c op a b = (nanResult c op a b, noConds) := by
  simp [nanOperands, ha, hb]

theorem isQNaN_nanResult {c : Config} {op : ArithOp} {a b : BitVec 32}
    (h : isNaN single a = true ∨ isNaN single b = true) (ha : isSNaN c.nan2008 single a = false)
    (hb : isSNaN c.nan2008 single b = false) : isQNaN c.nan2008 single (nanResult c op a b) = true := by
  unfold nanResult
  split
  · unfold firstQNaN
    split
    · next hqa => exact hqa
    · next hqa =>
      have hnan : isNaN single b = true := h.resolve_left fun hnan => hqa (isQNaN_of_isNaN hnan ha)
      exact isQNaN_of_isNaN hnan hb
  · split
    · next hq => exact hq
    · exact isQNaN_qnanDefaultS c

/-! Zeros and infinities -/

theorem zeroOf_xor (x y : Bool) : zeroOf 32 (x ^^ y) = if x = y then 0#32 else 0x80000000#32 := by
  cases x <;> cases y <;> rfl

theorem infinity_xor (x y : Bool) :
    infinity single 32 (x ^^ y) = if x = y then 0x7F800000#32 else 0xFF800000#32 := by
  cases x <;> cases y <;> rfl

theorem isInf_of_isZero {x : BitVec 32} (h : isZero single x = true) : isInf single x = false := by
  have hpos := single_fits.infFields_pos
  rw [isZero_iff single_fits] at h
  rw [← Bool.not_eq_true, isInf_iff single_fits]
  omega

theorem isZero_of_isInf {x : BitVec 32} (h : isInf single x = true) : isZero single x = false := by
  rw [← Bool.not_eq_true]
  exact fun hz => by simp [isInf_of_isZero hz] at h

theorem eq_of_isInf {a b : BitVec 32} (ha : isInf single a = true) (hb : isInf single b = true)
    (hs : signBit a = signBit b) : a = b := by
  rw [isInf_iff single_fits] at ha hb
  exact pattern_ext (by decide) hs (ha.trans hb.symm)

theorem zeroOf_signBit {x : BitVec 32} (h : isZero single x = true) : zeroOf 32 (signBit x) = x := by
  have hpack := packBits_fields (by decide) x
  rwa [(isZero_iff single_fits x).mp h] at hpack

theorem zeroSumSign_comm (mode : RoundingMode) (a b : BitVec 32) : zeroSumSign mode a b = zeroSumSign mode b a := by
  unfold zeroSumSign
  by_cases hs : signBit a = signBit b
  · rw [hs, Bool.and_comm (isZero single a)]
  · simp [hs, Ne.symm hs]

/-! The branches of the sum and of the product -/

section
variable {c : Config} {f : Fcsr} {a b : BitVec 32}

theorem addS_nan (h : isNaN single a = true ∨ isNaN single b = true) : addS c f a b = nanOperands c .add a b := by
  rw [← Bool.or_eq_true] at h
  exact if_pos h

theorem mulS_nan (h : isNaN single a = true ∨ isNaN single b = true) : mulS c f a b = nanOperands c .mul a b := by
  rw [← Bool.or_eq_true] at h
  exact if_pos h

variable (ha : isNaN single a = false) (hb : isNaN single b = false)
include ha hb

theorem addS_inf_opposite (hia : isInf single a = true) (hib : isInf single b = true) (hs : signBit a ≠ signBit b) :
    addS c f a b = (qnanDefaultS c, condV) := by
  simp [addS, ha, hb, hia, hib, hs]

theorem addS_inf_left (hia : isInf single a = true) (hs : isInf single b = true → signBit a = signBit b) :
    addS c f a b = (a, noConds) := by
  simpa [addS, ha, hb, hia] using fun hib hne => absurd (hs hib) hne

theorem addS_inf_right (hia : isInf single a = false) (hib : isInf single b = true) : addS c f a b = (b, noConds) := by
  simp [addS, ha, hb, hia, hib]

theorem addS_finite (hia : isInf single a = false) (hib : isInf single b = false) : addS c f a b =
    if signedMagnitude single a + signedMagnitude single b = 0 then (zeroOf 32 (zeroSumSign f.rm a b), noConds)
    else roundFlush c f (decide (signedMagnitude single a + signedMagnitude single b < 0))
      (signedMagnitude single a + signedMagnitude single b).natAbs (unitsPerOne single) := by
  simp [addS, ha, hb, hia, hib]

theorem mulS_inf_zero (hi : isInf single a = true ∨ isInf single b = true)
    (hz : isZero single a = true ∨ isZero single b = true) : mulS c f a b = (qnanDefaultS c, condV) := by
  rw [← Bool.or_eq_true] at hi hz
  simp [mulS, ha, hb, hi, hz]

theorem mulS_inf (hi : isInf single a = true ∨ isInf single b = true) (hza : isZero single a = false)
    (hzb : isZero single b = false) : mulS c f a b = (infinity single 32 (signBit a ^^ signBit b), noConds) := by
  rw [← Bool.or_eq_true] at hi
  simp [mulS, ha, hb, hi, hza, hzb]

theorem mulS_zero (hia : isInf single a = false) (hib : isInf single b = false)
    (hz : isZero single a = true ∨ isZero single b = true) :
    mulS c f a b = (zeroOf 32 (signBit a ^^ signBit b), noConds) := by
  rw [← Bool.or_eq_true] at hz
  simp [mulS, ha, hb, hia, hib, hz]

theorem mulS_finite (hia : isInf single a = false) (hib : isInf single b = false) (hza : isZero single a = false)
    (hzb : isZero single b = false) : mulS c f a b = roundFlush c f (signBit a ^^ signBit b)
      (magnitude single a * magnitude single b) (unitsPerOne single * unitsPerOne single) := by
  simp [mulS, ha, hb, hia, hib, hza, hzb]

/-! Either order -/

theorem addS_comm : addS c f a b = addS c f b a := by
  cases hia : isInf single a <;> cases hib : isInf single b
  case false.false =>
    rw [addS_finite ha hb hia hib, addS_finite hb ha hib hia, zeroSumSign_comm, Int.add_comm (signedMagnitude single a)]
  case false.true => rw [addS_inf_right ha hb hia hib, addS_inf_left hb ha hib (by simp [hia])]
  case true.false => rw [addS_inf_left ha hb hia (by simp [hib]), addS_inf_right hb ha hib hia]
  case true.true =>
    by_cases hs : signBit a = signBit b
    · rw [eq_of_isInf hia hib hs]
    · rw [addS_inf_opposite ha hb hia hib hs, addS_inf_opposite hb ha hib hia (Ne.symm hs)]

theorem mulS_comm : mulS c f a b = mulS c f b a := by
  simp only [mulS, ha, hb, Bool.or_self, Bool.false_eq_true, if_false]
  rw [Bool.xor_comm (signBit a), Bool.or_comm (isInf single a), Bool.or_comm (isZero single a),
    Nat.mul_comm (magnitude single a)]

end

/-- Settles O51: each class of operands is symmetric, and two infinities of one sign are one pattern. -/
theorem addAndMulCommute : Obligations.AddAndMulCommute := fun _ _ _ _ ha hb => ⟨addS_comm ha hb, mulS_comm ha hb⟩

/-! The rounded results -/

section
variable {c : Config} {f : Fcsr} {s : Bool}

theorem flushTiny_fst {r : Rounded 32} (h : c.numerics = .reference ∨ r.tiny = false) :
    (flushTiny c f s r).1 = r.bits := by
  unfold flushTiny
  split
  · rfl
  · next hn => simp [h.resolve_left (by simp [hn])]

theorem flushTiny_snd {r : Rounded 32} (h : c.numerics = .reference ∨ r.tiny = false) :
    (flushTiny c f s r).2 = r.conds := by
  unfold flushTiny
  split
  · rfl
  · next hn => simp [h.resolve_left (by simp [hn])]

theorem tiny_roundRatio {L : Layout} {w num den : Nat} (h : minExp L ≤ floorLog2 num den) :
    (roundRatio L w c f s num den).tiny = false := by
  rcases le_or_gt (infFields L) (roundedFields L f.rm s num den) with hover | hfinite
  · rw [roundRatio_overflow hover]
  · rw [roundRatio_finite hfinite]
    exact tinyRatio_eq_false h

theorem signBit_roundRatio {L : Layout} {w : Nat} (hL : L.Fits w) (num den : Nat) :
    signBit (roundRatio L w c f s num den).bits = s := by
  have hinf := signBit_packBits hL.width_pos s hL.infFields_lt
  have hmax := signBit_packBits hL.width_pos s (lt_of_le_of_lt (Nat.sub_le (infFields L) 1) hL.infFields_lt)
  rcases le_or_gt (infFields L) (roundedFields L f.rm s num den) with hover | hfinite
  · rw [roundRatio_overflow hover, overflowResult_eq]
    dsimp only
    split
    · exact hinf
    · exact hmax
  · rw [roundRatio_finite hfinite]
    exact signBit_packBits hL.width_pos s (hfinite.trans hL.infFields_lt)

/-- The rounded result is delivered as it is in the reference instance and in the normalized range. -/
theorem isRounding_roundFlush {num den : Nat} (hnum : 0 < num) (hden : 0 < den)
    (h : c.numerics = .reference ∨ (2 : ℚ) ^ (-126 : ℤ) ≤ |(signUnit s : ℚ) * ((num : ℚ) / den)|) :
    IsRounding single c f (signUnit s * ((num : ℚ) / den)) (roundFlush c f s num den).1 (roundFlush c f s num den).2 := by
  have hpos : (0 : ℚ) < (num : ℚ) / den := by positivity
  have hflush : c.numerics = .reference ∨ (roundRatio single 32 c f s num den).tiny = false := by
    refine h.imp_right fun hv => tiny_roundRatio ?_
    rw [abs_signUnit_mul, abs_of_pos hpos, two_zpow_le_iff hpos] at hv
    rw [floorLog2_eq_log hnum hden]
    exact hv
  rw [roundFlush, flushTiny_fst hflush, flushTiny_snd hflush]
  exact isRounding_roundRatio hnum hden s single_fits c f

variable {a b : BitVec 32}

theorem fpValue_add_eq (a b : BitVec 32) : fpValue single a + fpValue single b =
    ((signedMagnitude single a + signedMagnitude single b : ℤ) : ℚ) / unitsPerOne single := by
  rw [fpValue, fpValue, ← add_div, Int.cast_add]

theorem fpValue_add_eq_zero_iff (a b : BitVec 32) : fpValue single a + fpValue single b = 0 ↔
    signedMagnitude single a + signedMagnitude single b = 0 := by
  rw [fpValue_add_eq, div_eq_zero_iff, or_iff_left (unitsPerOne_pos single).ne', Int.cast_eq_zero]

theorem fpValue_mul_eq (a b : BitVec 32) : fpValue single a * fpValue single b =
    signUnit (signBit a ^^ signBit b) *
      (((magnitude single a * magnitude single b : ℕ) : ℚ) / (unitsPerOne single * unitsPerOne single : ℕ)) := by
  have hs : (signUnit (signBit a ^^ signBit b) : ℚ) = signUnit (signBit a) * signUnit (signBit b) := by
    cases signBit a <;> cases signBit b <;> simp
  rw [fpValue_eq_ratio single_fits, fpValue_eq_ratio single_fits, hs, Nat.cast_mul, Nat.cast_mul, mul_div_mul_comm]
  ring

theorem fpValue_eq_zero_of_isZero {x : BitVec 32} (h : isZero single x = true) : fpValue single x = 0 := by
  rw [fpValue_eq_ratio single_fits, (magnitude_eq_zero_iff single_fits x).mpr h]
  simp

variable (ha : isNaN single a = false) (hb : isNaN single b = false) (hia : isInf single a = false)
  (hib : isInf single b = false)
include ha hb hia hib

theorem addS_zeros (hza : isZero single a = true) (hzb : isZero single b = true) (hs : signBit a = signBit b) :
    addS c f a b = (a, noConds) := by
  have hsum : signedMagnitude single a + signedMagnitude single b = 0 := by
    rw [← fpValue_add_eq_zero_iff, fpValue_eq_zero_of_isZero hza, fpValue_eq_zero_of_isZero hzb, add_zero]
  have hsign : zeroSumSign f.rm a b = signBit a := by simp [zeroSumSign, hza, hzb, hs]
  rw [addS_finite ha hb hia hib, if_pos hsum, hsign, zeroOf_signBit hza]

theorem addS_cancel (hv : fpValue single a + fpValue single b = 0)
    (hz : ¬ (isZero single a = true ∧ isZero single b = true ∧ signBit a = signBit b)) :
    addS c f a b = (if f.rm = .rm then 0x80000000#32 else 0#32, noConds) := by
  have hsign : zeroSumSign f.rm a b = (f.rm == .rm) := by
    rw [zeroSumSign, if_neg (by simpa [and_assoc] using hz)]
  rw [addS_finite ha hb hia hib, if_pos ((fpValue_add_eq_zero_iff a b).mp hv), hsign]
  cases f.rm <;> rfl

theorem isRounding_addS (hv : fpValue single a + fpValue single b ≠ 0)
    (h : c.numerics = .reference ∨ (2 : ℚ) ^ (-126 : ℤ) ≤ |fpValue single a + fpValue single b|) :
    IsRounding single c f (fpValue single a + fpValue single b) (addS c f a b).1 (addS c f a b).2 := by
  have hsum := mt (fpValue_add_eq_zero_iff a b).mpr hv
  rw [fpValue_add_eq, intCast_eq_sign_mul, mul_div_assoc] at h ⊢
  rw [addS_finite ha hb hia hib, if_neg hsum]
  exact isRounding_roundFlush (Int.natAbs_pos.mpr hsum) (unitsPerOne_nat_pos single) h

theorem isRounding_mulS (hp : fpValue single a * fpValue single b ≠ 0)
    (h : c.numerics = .reference ∨ (2 : ℚ) ^ (-126 : ℤ) ≤ |fpValue single a * fpValue single b|) :
    IsRounding single c f (fpValue single a * fpValue single b) (mulS c f a b).1 (mulS c f a b).2 := by
  obtain ⟨hva, hvb⟩ := mul_ne_zero_iff.mp hp
  have hza : isZero single a = false := Bool.eq_false_iff.mpr (mt fpValue_eq_zero_of_isZero hva)
  have hzb : isZero single b = false := Bool.eq_false_iff.mpr (mt fpValue_eq_zero_of_isZero hvb)
  have hnum := Nat.mul_pos (magnitude_pos single_fits hza) (magnitude_pos single_fits hzb)
  have hunits := unitsPerOne_nat_pos single
  rw [fpValue_mul_eq] at h ⊢
  rw [mulS_finite ha hb hia hib hza hzb]
  exact isRounding_roundFlush hnum (Nat.mul_pos hunits hunits) h

theorem signBit_mulS (hr : c.numerics = .reference) : signBit (mulS c f a b).1 = (signBit a ^^ signBit b) := by
  by_cases hz : isZero single a = true ∨ isZero single b = true
  · rw [mulS_zero ha hb hia hib hz]
    exact signBit_packBits (by decide) _ (by decide)
  · simp only [not_or, Bool.not_eq_true] at hz
    rw [mulS_finite ha hb hia hib hz.1 hz.2, roundFlush, flushTiny_fst (.inl hr)]
    exact signBit_roundRatio single_fits _ _

end

/-- Settles O50: the branches of the sum and the product, a class of operands at a time. -/
theorem addAndMulResults : Obligations.AddAndMulResults := by
  intro c f a b q v p
  refine ⟨rfl, isQNaN_qnanDefaultS c, fun h => ?signaling, fun h hsa hsb => ?quiet, fun ha hb =>
    ⟨addS_inf_opposite ha hb, addS_inf_left ha hb, fun hib hs => ?infRight, fun hza hzb => ?zeros,
      addS_cancel ha hb, isRounding_addS ha hb, fun h => ?infZero, fun hia hib hz => ?zero, fun h => ?inf,
      isRounding_mulS ha hb, fun hr hia hib => signBit_mulS ha hb hia hib hr⟩⟩
  case signaling =>
    have hnan := h.imp isNaN_of_isSNaN isNaN_of_isSNaN
    rw [addS_nan hnan, mulS_nan hnan, nanOperands_signaling h, nanOperands_signaling h]
    exact ⟨rfl, rfl⟩
  case quiet =>
    rw [addS_nan h, mulS_nan h, nanOperands_quiet hsa hsb, nanOperands_quiet hsa hsb]
    exact ⟨isQNaN_nanResult h hsa hsb, rfl, isQNaN_nanResult h hsa hsb, rfl⟩
  case infRight =>
    rw [addS_comm ha hb]
    exact addS_inf_left hb ha hib fun hia => (hs hia).symm
  case zeros => exact addS_zeros ha hb (isInf_of_isZero hza) (isInf_of_isZero hzb) hza hzb
  case infZero =>
    exact mulS_inf_zero ha hb (h.imp And.left And.right) (h.symm.imp And.left And.right)
  case zero => rw [mulS_zero ha hb hia hib hz, zeroOf_xor]
  case inf =>
    have hza : isZero single a = false := h.elim (fun h => isZero_of_isInf h.1) And.right
    have hzb : isZero single b = false := h.elim And.right fun h => isZero_of_isInf h.1
    rw [mulS_inf ha hb (h.imp And.left And.left) hza hzb, infinity_xor]

end Sys2Proof.Machine
end

section
/-! The completing branch of R121: an instruction that executes and signals only disabled conditions writes Cause, Flags
and its result, and advances. -/

namespace Sys2Proof.Machine

/-- The outcome of the completing branch for the conditions c. -/
theorem signal_disabled {c : Conds} {write : State → State} {s : State} (h : meetsEnables s.fcsr.enables c = false) :
    signal (causeOf c) write s = .next (advance (write
      { s with fcsr := { s.fcsr with cause := ⟨false, c⟩, flags := unionConds s.fcsr.flags c } })) :=
  signal_completes (by simp [causeTraps, causeOf, h])

/-- A reduction that executes signals the conditions of both sums or products, and writes the pair (R140, R215). -/
theorem reduce_executes {op : Config → Fcsr → BitVec 32 → BitVec 32 → BitVec 32 × Conds} {i : Instr} {fd fs ft : FReg}
    {s : State} {upper lower : BitVec 32 × Conds} (h : ExecutesTwo i .ps fs ft s)
    (hupper : op s.cfg s.fcsr (lowerHalf (getFpr s fs).bits) (upperHalf (getFpr s fs).bits) = upper)
    (hlower : op s.cfg s.fcsr (lowerHalf (getFpr s ft).bits) (upperHalf (getFpr s ft).bits) = lower) :
    reduce op i fd fs ft s =
      signal (causeOf (unionConds upper.2 lower.2)) (setFpr fd ⟨.ps, upper.1 ++ lower.1⟩) s := by
  subst hupper hlower
  exact withTwo_executes h

/-- Settles O21: the reduction executes, and what it signals is disabled. -/
theorem addrPsResult : Obligations.AddrPsResult := by
  intro fd fs ft s h lower upper c hdisabled
  have hexec : exec (.addrPs fd fs ft) s = reduce addS (.addrPs fd fs ft) fd fs ft s := rfl
  have hsignals : reduce addS (.addrPs fd fs ft) fd fs ft s =
      signal (causeOf c) (setFpr fd ⟨.ps, upper.1 ++ lower.1⟩) s := reduce_executes h rfl rfl
  rw [hexec, hsignals, signal_disabled hdisabled]
  rfl

end Sys2Proof.Machine
end

section
/-! The branches on any of several condition codes (spec/42_bc1any.md): the decision, the move to the delay slot, and
where control goes after it. -/

namespace Sys2Proof.Machine

/-- Where control goes after the delay slot of a branch on n codes (R151, R153). -/
def branchDest (n : Nat) (tf : Bool) (cc : CcNum) (offset : BitVec 16) (s : State) : Addr :=
  if anyCc s.fcsr cc tf n then branchTarget s offset else fallThrough s

theorem branchDest_taken {n : Nat} {tf : Bool} {cc : CcNum} {s : State} (offset : BitVec 16)
    (h : anyCc s.fcsr cc tf n = true) :
    branchDest n tf cc offset s = addrAdd s (addrAdd s s.pc 4#64) (targetOffset offset) := by
  rw [branchDest, if_pos h, branchTarget]

theorem branchDest_notTaken {n : Nat} {tf : Bool} {cc : CcNum} {s : State} (offset : BitVec 16)
    (h : ¬ anyCc s.fcsr cc tf n = true) : branchDest n tf cc offset s = addrAdd s s.pc 8#64 := by
  rw [branchDest, if_neg h, fallThrough]

theorem branchAny_executes {i : Instr} {s : State} (h : ExecutesBranch i s) (n : Nat) (tf : Bool) (cc : CcNum)
    (offset : BitVec 16) : branchAny n tf i cc offset s = .next (branchTo (branchDest n tf cc offset s) s) :=
  withNone_executes h

/-- Where an exception ends the run, a branch that answers a next state has moved to its delay slot. -/
theorem branchAny_next {i : Instr} {s t : State} {n : Nat} {tf : Bool} {cc : CcNum} {offset : BitVec 16}
    (htraps : s.cfg.traps = .terminal) (h : branchAny n tf i cc offset s = .next t) :
    t = branchTo (branchDest n tf cc offset s) s := by
  rcases withNone_next h with ⟨ha, -⟩ | ⟨hexec, -⟩
  · simp [ha] at htraps
  · rw [branchAny_executes hexec] at h
    cases h
    rfl

/-! The decision -/

/-- The condition of R150: one of the n codes from cc on has the branch's sense. -/
theorem anyCc_iff (f : Fcsr) (cc : CcNum) (tf : Bool) (n : Nat) :
    anyCc f cc tf n = true ↔ ∃ k, k < n ∧ fccGet f (cc + BitVec.ofNat 3 k) = tf := by
  induction n with
  | zero => simp [anyCc]
  | succ n ih => simp only [anyCc, Bool.or_eq_true, beq_iff_eq, ih, Nat.exists_lt_succ_right]

theorem anyCc_two_iff (f : Fcsr) (cc : CcNum) (tf : Bool) :
    anyCc f cc tf 2 = true ↔ fccGet f cc = tf ∨ fccGet f (cc + 1#3) = tf := by
  simp [anyCc]

theorem anyCc_four_iff (f : Fcsr) (cc : CcNum) (tf : Bool) :
    anyCc f cc tf 4 = true ↔ fccGet f cc = tf ∨ fccGet f (cc + 1#3) = tf ∨ fccGet f (cc + 2#3) = tf ∨
      fccGet f (cc + 3#3) = tf := by
  simp [anyCc, or_assoc]

/-- The outcome of a branch that executes, for any way P of writing its condition. -/
theorem branchAny_outcome {i : Instr} {s : State} {n : Nat} {tf : Bool} {cc : CcNum} {offset : BitVec 16}
    {P : Prop} [Decidable P] (h : ExecutesBranch i s) (hcond : anyCc s.fcsr cc tf n = true ↔ P) :
    branchAny n tf i cc offset s = .next
      { s with
        pc := addrAdd s s.pc 4#64
        ds := some (if P then addrAdd s (addrAdd s s.pc 4#64) (targetOffset offset) else addrAdd s s.pc 8#64) } := by
  simp only [branchAny_executes h, branchDest, hcond]
  rfl

/-- Settles O23: BC1ANY2F and BC1ANY2T are `branchAny` on two codes. -/
theorem branchAnyTwoResult : Obligations.BranchAnyTwoResult := fun _ _ _ =>
  ⟨fun h => branchAny_outcome h (anyCc_two_iff ..), fun h => branchAny_outcome h (anyCc_two_iff ..)⟩

/-- Settles O24: BC1ANY4F and BC1ANY4T are `branchAny` on four codes. -/
theorem branchAnyFourResult : Obligations.BranchAnyFourResult := fun _ _ _ =>
  ⟨fun h => branchAny_outcome h (anyCc_four_iff ..), fun h => branchAny_outcome h (anyCc_four_iff ..)⟩

/-! The delay slot -/

/-- No word of a branch has its nd bit set (R83). -/
theorem nd_of_decode_branch {w : Word} {i : Instr} (hb : isBranch i = true) (h : decode w = .instr i) :
    w.getLsbD 17 = false := by
  obtain ⟨hmajor, hr⟩ := (decode_eq_instr_iff w i).mp h
  rw [← hr.encode hmajor]
  cases i with
  | bc1any2f cc offset | bc1any2t cc offset | bc1any4f cc offset | bc1any4t cc offset =>
    exact getLsbD_eq_of_extractLsb'_one (encodeFb_nd ..)
  | _ => cases hb

/-- The instruction of a delay slot moves control to the address pending since the branch (R34, R152). -/
theorem exec_after_branchTo {j : Instr} {a : Addr} {s u : State} (htraps : s.cfg.traps = .terminal)
    (hj : isBranch j = false) (h : exec j (branchTo a s) = .next u) : u.pc = a ∧ u.ds = none := by
  obtain ⟨-, hslot, -⟩ := pcAndDelaySlotAdvance j (branchTo a s) u htraps h
  exact hslot hj a rfl

/-- Settles O19: the branch decides the pending address, and the instruction of the delay slot goes there. -/
theorem delaySlotThenTarget : Obligations.DelaySlotThenTarget := by
  intro n tf cc offset b j s t u htraps hj hform hbranch hslot
  obtain ⟨hb, hexec⟩ : isBranch b = true ∧ exec b s = branchAny n tf b cc offset s := by
    rcases hform with ⟨rfl, rfl, rfl⟩ | ⟨rfl, rfl, rfl⟩ | ⟨rfl, rfl, rfl⟩ | ⟨rfl, rfl, rfl⟩ <;> exact ⟨rfl, rfl⟩
  obtain rfl := branchAny_next htraps (hexec ▸ hbranch)
  obtain ⟨hpc, hds⟩ := exec_after_branchTo htraps hj hslot
  refine ⟨rfl, hds, fun htaken => ?taken, fun hnone => ?notTaken, fun w => nd_of_decode_branch hb⟩
  case taken => rw [hpc, branchDest_taken offset ((anyCc_iff ..).mpr htaken)]
  case notTaken =>
    have hnot : ¬ anyCc s.fcsr cc tf n = true := by
      rw [anyCc_iff]
      rintro ⟨k, hk, htf⟩
      exact hnone k hk htf
    rw [hpc, branchDest_notTaken offset hnot]

end Sys2Proof.Machine
end

section
/-! The completing branch of R121 for the compares CABS.cond.fmt (spec/43_cabs.md): Invalid Operation is the one
condition a compare signals, and condition codes are all it writes besides Cause and Flags (R170, R173). -/

namespace Sys2Proof.Machine

/-! What a compare signals -/

/-- The set that is empty or holds Invalid Operation alone, field by field. -/
theorem invalidIf_eq (v : Bool) : invalidIf v = ⟨v, false, false, false, false⟩ := by
  cases v <;> rfl

theorem meetsEnables_invalidIf (enables : Conds) (v : Bool) :
    meetsEnables enables (invalidIf v) = (enables.v && v) := by
  simp [meetsEnables, invalidIf_eq]

theorem unionConds_invalidIf (flags : Conds) (v : Bool) :
    unionConds flags (invalidIf v) = { flags with v := flags.v || v } := by
  simp [unionConds, invalidIf_eq]

/-- The completing branch for a set that is empty or holds Invalid Operation alone. -/
theorem signal_invalidIf_disabled {v : Bool} {write : State → State} {s : State}
    (h : (s.fcsr.enables.v && v) = false) :
    signal (causeOf (invalidIf v)) write s = .next (advance (write
      { s with
        fcsr := { s.fcsr with
          cause := ⟨false, ⟨v, false, false, false, false⟩⟩
          flags := { s.fcsr.flags with v := s.fcsr.flags.v || v } } })) := by
  rw [signal_disabled ((meetsEnables_invalidIf ..).trans h), unionConds_invalidIf, invalidIf_eq]

/-! What a compare that executes signals and writes, one equation for each operand format -/

section
variable {i : Instr} {cc : CcNum} {fs ft : FReg} {s : State} (cond : BitVec 4)

theorem compareS_executes (h : ExecutesTwo i .s fs ft s) :
    let r := cabs1 s.cfg.nan2008 single cond ((getFpr s fs).bits.extractLsb' 0 32) ((getFpr s ft).bits.extractLsb' 0 32)
    compareS cond i cc fs ft s = signal (causeOf (invalidIf r.2)) (setCc cc r.1) s := by
  rw [← lowerHalf_operandBits_s s fs, ← lowerHalf_operandBits_s s ft]
  exact withTwo_executes h

theorem compareD_executes (h : ExecutesTwo i .d fs ft s) :
    let r := cabs1 s.cfg.nan2008 double cond (getFpr s fs).bits (getFpr s ft).bits
    compareD cond i cc fs ft s = signal (causeOf (invalidIf r.2)) (setCc cc r.1) s :=
  withTwo_executes h

theorem comparePs_executes (h : ExecutesTwo i .ps fs ft s) :
    let lower := cabs1 s.cfg.nan2008 single cond ((getFpr s fs).bits.extractLsb' 0 32)
      ((getFpr s ft).bits.extractLsb' 0 32)
    let upper := cabs1 s.cfg.nan2008 single cond ((getFpr s fs).bits.extractLsb' 32 32)
      ((getFpr s ft).bits.extractLsb' 32 32)
    comparePs cond i cc fs ft s = signal (causeOf (invalidIf (lower.2 || upper.2)))
      (fun t => setCc (cc + 1#3) upper.1 (setCc cc lower.1 t)) s :=
  withTwo_executes h

end

/-! The obligations: the compare executes, Invalid Operation is disabled or does not arise, and the codes are written -/

/-- Settles O25: one comparison, of the lower halves, written to cc. -/
theorem compareSingleResult : Obligations.CompareSingleResult := by
  intro c cc fs ft s h r hdisabled
  rw [exec_cabsInstr_s, compareS_executes c.bits h, signal_invalidIf_disabled hdisabled]
  rfl

/-- Settles O26: one comparison, of the whole registers, written to cc. -/
theorem compareDoubleResult : Obligations.CompareDoubleResult := by
  intro c cc fs ft s h r hdisabled
  rw [exec_cabsInstr_d, compareD_executes c.bits h, signal_invalidIf_disabled hdisabled]
  rfl

/-- Settles O27: the comparison of the lower halves is written to cc, then that of the upper halves to cc + 1, and
Invalid Operation in either half is signaled once. -/
theorem comparePairedResult : Obligations.ComparePairedResult := by
  intro c cc fs ft s h lower upper hdisabled
  rw [exec_cabsInstr_ps, comparePs_executes c.bits h, signal_invalidIf_disabled hdisabled]
  rfl

end Sys2Proof.Machine
end

section
/-! The conversions CVT.PS.PW and CVT.PW.PS where they execute (spec/44_cvt.md): each half is converted on its own, and the
conditions of both are signaled together (R121, R200, R203). -/

namespace Sys2Proof.Machine

/-- A conversion that executes signals the conditions of both halves, and stores the pair. -/
theorem convertPair_executes {half : BitVec 32 → BitVec 32 × Conds} {source dest : Fmt} {i : Instr} {fd fs : FReg}
    {s : State} {upper lower : BitVec 32 × Conds} (h : ExecutesOne i source fs s)
    (hupper : half (upperHalf (operandBits s fs source)) = upper)
    (hlower : half (lowerHalf (operandBits s fs source)) = lower) :
    convertPair half source dest i fd fs s =
      signal (causeOf (unionConds upper.2 lower.2)) (storeFpr fd dest (upper.1 ++ lower.1)) s := by
  subst hupper hlower
  exact withOne_executes h

/-- Settles O28: the conversion executes, and what it signals is disabled. -/
theorem cvtPsPwResult : Obligations.CvtPsPwResult := by
  intro fd fs s h lower upper c hdisabled
  have hexec : exec (.cvtPsPw fd fs) s = signal (causeOf c) (storeFpr fd .ps (upper.1 ++ lower.1)) s :=
    convertPair_executes h rfl rfl
  rw [hexec, signal_disabled hdisabled]
  rfl

/-! Invalid Operation of CVT.PW.PS -/

/-- The halves that R205 names do not depend on the rounding mode. -/
theorem invalidAsWord_iff (mode : RoundingMode) (x : BitVec 32) : InvalidAsWord mode x ↔ OutOfWord x := by
  rw [InvalidAsWord, OutOfWord, wordOverflow_iff, or_left_comm]

theorem convertSW_of_invalidAsWord {f : Fcsr} {x : BitVec 32} (h : InvalidAsWord f.rm x) :
    convertSW f x = (0x7FFFFFFF#32, condV) :=
  convertSW_outOfWord ((invalidAsWord_iff f.rm x).mp h) f

theorem convertSW_union_invalid_iff (f : Fcsr) (high low : BitVec 32) :
    (unionConds (convertSW f high).2 (convertSW f low).2).v = true ↔
      InvalidAsWord f.rm high ∨ InvalidAsWord f.rm low := by
  rw [invalidAsWord_iff, invalidAsWord_iff, ← convertSW_invalid_iff f high, ← convertSW_invalid_iff f low]
  exact Bool.or_eq_true_iff

theorem meetsEnables_of_v {enables c : Conds} (he : enables.v = true) (hc : c.v = true) :
    meetsEnables enables c = true := by
  simp [meetsEnables, he, hc]

/-- Settles O29: a half out of the range of a word gives Invalid Operation and 2^31-1; the conversion executes, and what it
signals is disabled, or holds Invalid Operation, enabled. -/
theorem cvtPwPsResult : Obligations.CvtPwPsResult := by
  intro fd fs s h low high lower upper c
  have hv : c.v = true ↔ InvalidAsWord s.fcsr.rm high ∨ InvalidAsWord s.fcsr.rm low :=
    convertSW_union_invalid_iff s.fcsr high low
  have hexec : exec (.cvtPwPs fd fs) s = signal (causeOf c) (storeFpr fd .pw (upper.1 ++ lower.1)) s :=
    convertPair_executes h rfl rfl
  refine ⟨hv, fun hhigh => ?upper, fun hlow => ?lower, fun hdisabled => ?completes, fun he hinvalid => ?raises⟩
  case upper => exact congrArg Prod.fst (convertSW_of_invalidAsWord hhigh)
  case lower => exact congrArg Prod.fst (convertSW_of_invalidAsWord hlow)
  case completes =>
    rw [hexec, signal_disabled hdisabled]
    rfl
  case raises =>
    have hc := hv.mpr hinvalid
    exact ⟨hc, hexec.trans (signal_enabled (meetsEnables_of_v he hc))⟩

end Sys2Proof.Machine
end

section
/-! The conditions each function computes, against the table of R271: Division-by-zero never arises in a rounding, a sum, a
product, or in RECIP2 and RSQRT2, and a conversion raises Invalid Operation and Inexact at most. -/

namespace Sys2Proof.Machine

/-! Sets of conditions -/

theorem condsWithin_all (a : Conds) : condsWithin a ⟨true, true, true, true, true⟩ = true := by
  simp [condsWithin]

theorem condsWithin_of_noZ {a : Conds} (h : a.z = false) : condsWithin a ⟨true, false, true, true, true⟩ = true := by
  simp [condsWithin, h]

theorem condsWithin_common (a b : Conds) : condsWithin (commonConds a b) b = true := by
  simp only [condsWithin, commonConds, Bool.not_and, Bool.or_assoc, Bool.not_or_self, Bool.or_true, Bool.and_true]

theorem condsWithin_unionConds_left (a b c : Conds) :
    condsWithin (unionConds a b) c = (condsWithin a c && condsWithin b c) := by
  simp only [condsWithin, unionConds, Bool.not_or, Bool.or_and_distrib_right]
  ac_rfl

theorem condsWithin_pairUp {upper lower : BitVec 32 × Conds} {l : Conds} (hu : condsWithin upper.2 l = true)
    (hl : condsWithin lower.2 l = true) : condsWithin (pairUp upper lower).2 l = true :=
  (condsWithin_unionConds_left ..).trans (by rw [hu, hl]; rfl)

/-! Rounding and the functions of two operands: no Division-by-zero -/

theorem roundPlaced_noZ (L : Layout) (w : Nat) (c : Config) (f : Fcsr) (s : Bool) (e0 : Int)
    (place : Int → Nat × Remainder) : (roundPlaced L w c f s e0 place).conds.z = false := by
  unfold roundPlaced
  extract_lets
  split <;> rfl

theorem roundRatio_noZ (L : Layout) (w : Nat) (c : Config) (f : Fcsr) (s : Bool) (num den : Nat) :
    (roundRatio L w c f s num den).conds.z = false :=
  roundPlaced_noZ ..

theorem flushTiny_noZ (c : Config) (f : Fcsr) (s : Bool) {r : Rounded 32} (h : r.conds.z = false) :
    (flushTiny c f s r).2.z = false := by
  unfold flushTiny
  split
  · exact h
  · split
    · rfl
    · exact h

theorem roundFlush_noZ (c : Config) (f : Fcsr) (s : Bool) (num den : Nat) : (roundFlush c f s num den).2.z = false :=
  flushTiny_noZ c f s (roundRatio_noZ ..)

theorem nanOperands_noZ (c : Config) (op : ArithOp) (a b : BitVec 32) : (nanOperands c op a b).2.z = false := by
  unfold nanOperands
  split <;> rfl

theorem addS_noZ (c : Config) (f : Fcsr) (a b : BitVec 32) : (addS c f a b).2.z = false := by
  unfold addS
  split
  · exact nanOperands_noZ ..
  split
  · split <;> rfl
  split
  · rfl
  extract_lets sum
  split
  · rfl
  · exact roundFlush_noZ ..

theorem mulS_noZ (c : Config) (f : Fcsr) (a b : BitVec 32) : (mulS c f a b).2.z = false := by
  unfold mulS
  extract_lets s
  split
  · exact nanOperands_noZ ..
  split
  · split <;> rfl
  split
  · rfl
  · exact roundFlush_noZ ..

theorem refStep2_noZ {w : Nat} (divisor : Nat) (L : Layout) (q : BitVec w) (c : Config) (f : Fcsr) (a b : BitVec w) :
    (refStep2 divisor L w q c f a b).2.z = false := by
  unfold refStep2
  split
  · rfl
  split
  · rfl
  split
  · split <;> rfl
  extract_lets v
  split
  · rfl
  · exact roundRatio_noZ ..

/-- The functions of RECIP2 and RSQRT2, by the reference numerics and by any other. -/
theorem secondSteps_noZ (c : Config) (f : Fcsr) :
    (∀ a b, (recip2S c f a b).2.z = false) ∧ (∀ a b, (recip2D c f a b).2.z = false) ∧
      (∀ a b, (rsqrt2S c f a b).2.z = false) ∧ (∀ a b, (rsqrt2D c f a b).2.z = false) := by
  simp only [recip2S, recip2D, rsqrt2S, rsqrt2D]
  cases c.numerics with
  | reference =>
    exact ⟨fun _ _ => refStep2_noZ .., fun _ _ => refStep2_noZ .., fun _ _ => refStep2_noZ ..,
      fun _ _ => refStep2_noZ ..⟩
  | implementation => exact ⟨fun _ _ => rfl, fun _ _ => rfl, fun _ _ => rfl, fun _ _ => rfl⟩

/-- A function lifted to a register raises what it raises on S and on D operands. -/
theorem condsWithin_liftTwo {fS : BitVec 32 → BitVec 32 → BitVec 32 × Conds}
    {fD : BitVec 64 → BitVec 64 → BitVec 64 × Conds} {l : Conds} (hS : ∀ x y, condsWithin (fS x y).2 l = true)
    (hD : ∀ x y, condsWithin (fD x y).2 l = true) (f : InstrFmt) (x y : BitVec 64) :
    condsWithin (liftTwo fS fD f x y).2 l = true := by
  cases f with
  | s => exact hS _ _
  | d => exact hD _ _
  | ps => exact condsWithin_pairUp (hS _ _) (hS _ _)

/-! The conversions -/

theorem condsWithin_convertSW (f : Fcsr) (x : BitVec 32) :
    condsWithin (convertSW f x).2 ⟨true, false, false, false, true⟩ = true := by
  by_cases h : OutOfWord x
  · rw [convertSW_outOfWord h]
    rfl
  · simp [(convertSW_inWord h f).2, condUI, condsWithin]

theorem condsWithin_convertWS (c : Config) (f : Fcsr) (x : BitVec 32) :
    condsWithin (convertWS c f x).2 ⟨false, false, false, false, c.cvtPsPwInexact⟩ = true := by
  by_cases hx : x = 0#32
  · rw [hx]
    rfl
  · rw [convertWS_snd hx rfl]
    cases c.cvtPsPwInexact <;> simp [condUI, condsWithin]

/-! The compares -/

theorem condsWithin_invalidIf (v : Bool) : condsWithin (invalidIf v) condV = true := by
  cases v <;> rfl

/-- The 48 compares share one row of the table of R271. -/
theorem listedConds_of_isCompare {i : Instr} (h : isCompare i = true) (c : Config) : listedConds c i = condV := by
  cases i with
  | addrPs | bc1any2f | bc1any2t | bc1any4f | bc1any4t | cvtPsPw | cvtPwPs | mulrPs | recip1S | recip1D | recip1Ps
  | recip2S | recip2D | recip2Ps | rsqrt1S | rsqrt1D | rsqrt1Ps | rsqrt2S | rsqrt2D | rsqrt2Ps => cases h
  | _ => rfl

end Sys2Proof.Machine
end

section
/-! Where exceptions end the run, no instruction puts a condition in Cause that its page does not list (R265, R267, R271):
`KeepsToPage`, and one lemma for each shared operation that keeps to the page. -/

namespace Sys2Proof.Machine

/-- Cause holds only conditions that the page of i lists, and not E. -/
def Listed (c : Config) (i : Instr) (cause : Cause) : Prop :=
  cause.e = false ∧ condsWithin cause.conds (listedConds c i) = true

/-- The outcomes in which instruction i, run from s, has put no condition in Cause that its page does not list. -/
inductive KeepsToPage (i : Instr) (s : State) : Out → Prop where
  | next (t : State) (h : isBranch i = false → Listed s.cfg i t.fcsr.cause) : KeepsToPage i s (.next t)
  | fault (r : FaultRecord) (h : ∀ c, r.exception = .floatingPoint c → c = causeE ∨ Listed s.cfg i c) :
      KeepsToPage i s (.fault (.exception r))
  | refused (why : Refusal) : KeepsToPage i s (.refused why)

/-- What an instruction writes after it has signaled leaves Cause alone. -/
def KeepsCause (write : State → State) : Prop := ∀ t, (write t).fcsr.cause = t.fcsr.cause

theorem storeFpr_keepsCause (r : FReg) (f : Fmt) (v : BitVec 64) : KeepsCause (storeFpr r f v) := fun t => by simp

theorem drawFpr_keepsCause (r : FReg) (f : Fmt) : KeepsCause (drawFpr r f) := fun t => by simp

theorem foldl_loseFpr_fcsr (lost : List FReg) (s : State) : (lost.foldl loseFpr s).fcsr = s.fcsr := by
  induction lost generalizing s with
  | nil => rfl
  | cons r lost ih => exact ih (loseFpr s r)

/-! Each shared operation keeps to the page -/

theorem countDraw_keepsToPage {i : Instr} {s : State} {o : Out} (h : KeepsToPage i s o) :
    KeepsToPage i s (countDraw o) := by
  cases h with
  | next t h => exact .next _ h
  | fault r h => exact .fault r h
  | refused why => exact .refused why

section
variable {i : Instr} {s : State} (htraps : s.cfg.traps = .terminal)
include htraps

theorem raise_keepsToPage {e : Exception} {u : State} (hu : u.cfg = s.cfg)
    (he : ∀ c, e = .floatingPoint c → c = causeE ∨ Listed s.cfg i c) : KeepsToPage i s (raise e u) := by
  unfold raise
  rw [hu, htraps]
  exact .fault _ he

theorem signal_keepsToPage {c : Conds} {write : State → State} (hc : condsWithin c (listedConds s.cfg i) = true)
    (hw : KeepsCause write) : KeepsToPage i s (signal (causeOf c) write s) := by
  have hlisted : Listed s.cfg i (causeOf c) := ⟨rfl, hc⟩
  unfold signal
  split
  · refine raise_keepsToPage htraps (setCause_cfg _ s) fun c' hc' => ?_
    cases hc'
    exact .inr hlisted
  · refine .next _ fun _ => ?_
    rw [advance_fcsr, hw]
    exact hlisted

theorem unpredictableResult_keepsToPage (why : Refusal) (lost : List FReg) {write : State → State}
    (hw : KeepsCause write) : KeepsToPage i s (unpredictableResult why i lost write s) := by
  unfold unpredictableResult
  split
  · exact .refused _
  · refine countDraw_keepsToPage (signal_keepsToPage htraps (condsWithin_common _ _) fun t => ?_)
    rw [hw, foldl_loseFpr_fcsr]

theorem sixteenMode_keepsToPage (f : Fmt) {write : State → State} (hw : KeepsCause write) :
    KeepsToPage i s (sixteenMode i f write s) := by
  unfold sixteenMode
  split
  · exact unpredictableResult_keepsToPage htraps _ _ hw
  · exact unpredictableResult_keepsToPage htraps _ _ hw
  · exact .refused _

theorem guarded_keepsToPage {body : Out} (h : KeepsToPage i s body) : KeepsToPage i s (guarded i s body) := by
  unfold guarded
  split
  · exact raise_keepsToPage htraps rfl nofun
  split
  · exact .refused _
  split
  · exact raise_keepsToPage htraps rfl nofun
  · exact h

theorem unlessUnimplemented_keepsToPage (ops : List (BitVec 64)) {body : Out} (h : KeepsToPage i s body) :
    KeepsToPage i s (unlessUnimplemented i ops s body) := by
  unfold unlessUnimplemented
  split
  · refine raise_keepsToPage htraps (setCause_cfg _ s) fun c hc => ?_
    cases hc
    exact .inl rfl
  · exact h

theorem withNone_keepsToPage {body : Out} (h : KeepsToPage i s body) : KeepsToPage i s (withNone i s body) := by
  refine guarded_keepsToPage htraps ?_
  split
  · exact .refused _
  · exact unlessUnimplemented_keepsToPage htraps _ h

theorem withOne_keepsToPage {f : Fmt} {fs : FReg} {free : State → State} {body : BitVec 64 → Out}
    (hfree : KeepsCause free) (h : ∀ a, KeepsToPage i s (body a)) : KeepsToPage i s (withOne i f fs free s body) := by
  refine guarded_keepsToPage htraps ?_
  split
  · exact sixteenMode_keepsToPage htraps f hfree
  split
  · exact unlessUnimplemented_keepsToPage htraps _ (h _)
  · exact unpredictableResult_keepsToPage htraps _ _ hfree

theorem withTwo_keepsToPage {f : Fmt} {fs ft : FReg} {free : State → State} {body : BitVec 64 → BitVec 64 → Out}
    (hfree : KeepsCause free) (h : ∀ a b, KeepsToPage i s (body a b)) :
    KeepsToPage i s (withTwo i f fs ft free s body) := by
  refine guarded_keepsToPage htraps ?_
  split
  · exact sixteenMode_keepsToPage htraps f hfree
  split
  · exact unlessUnimplemented_keepsToPage htraps _ (h _ _)
  · exact unpredictableResult_keepsToPage htraps _ _ hfree

/-! The instructions, by their shapes -/

/-- An instruction that computes a result from one register. -/
theorem resultOfOne_keepsToPage {f fmt : Fmt} {fd fs : FReg} {res : BitVec 64 → BitVec 64 × Conds}
    (h : ∀ a, condsWithin (res a).2 (listedConds s.cfg i) = true) :
    KeepsToPage i s (withOne i f fs (drawFpr fd fmt) s fun a =>
      signal (causeOf (res a).2) (storeFpr fd fmt (res a).1) s) :=
  withOne_keepsToPage htraps (drawFpr_keepsCause fd fmt) fun a =>
    signal_keepsToPage htraps (h a) (storeFpr_keepsCause fd fmt _)

/-- An instruction that computes a result from two registers. -/
theorem resultOfTwo_keepsToPage {f fmt : Fmt} {fd fs ft : FReg} {res : BitVec 64 → BitVec 64 → BitVec 64 × Conds}
    (h : ∀ a b, condsWithin (res a b).2 (listedConds s.cfg i) = true) :
    KeepsToPage i s (withTwo i f fs ft (drawFpr fd fmt) s fun a b =>
      signal (causeOf (res a b).2) (storeFpr fd fmt (res a b).1) s) :=
  withTwo_keepsToPage htraps (drawFpr_keepsCause fd fmt) fun a b =>
    signal_keepsToPage htraps (h a b) (storeFpr_keepsCause fd fmt _)

/-- A compare lists Invalid Operation, which is all it signals (R173). -/
theorem compare_keepsToPage (hcompare : isCompare i = true) : KeepsToPage i s (exec i s) := by
  have hinvalid : ∀ v, condsWithin (invalidIf v) (listedConds s.cfg i) = true := fun v => by
    rw [listedConds_of_isCompare hcompare]
    exact condsWithin_invalidIf v
  rcases exec_shape i with ⟨-, hc, -⟩ | ⟨-, hc, -⟩ | ⟨-, hc, -⟩ | hs | hs
  case inl | inr.inl | inr.inr.inl => simp [hcompare] at hc
  · obtain ⟨-, -, -, _, _, _, _, -, -, hx⟩ := hs
    rw [hx]
    exact withTwo_keepsToPage htraps (fun _ => rfl) fun _ _ => signal_keepsToPage htraps (hinvalid _) fun _ => rfl
  · obtain ⟨-, -, -, -, _, _, _, _, _, -, -, hx⟩ := hs
    rw [hx]
    exact withTwo_keepsToPage htraps (fun _ => rfl) fun _ _ => signal_keepsToPage htraps (hinvalid _) fun _ => rfl

/-- The branches raise nothing but E. -/
theorem branch_keepsToPage (hb : isBranch i = true) : KeepsToPage i s (exec i s) := by
  obtain ⟨n, tf, cc, offset, hx⟩ := exec_branchAny hb
  rw [hx]
  exact withNone_keepsToPage htraps (.next _ fun hb' => by simp [hb] at hb')

/-- Every instruction keeps to its page: the row of R271 holds what its function can raise. -/
theorem exec_keepsToPage : KeepsToPage i s (exec i s) := by
  obtain ⟨hr2S, hr2D, hq2S, hq2D⟩ := secondSteps_noZ s.cfg s.fcsr
  cases i with
  | bc1any2f | bc1any2t | bc1any4f | bc1any4t => exact branch_keepsToPage htraps rfl
  | addrPs =>
    have h := fun x y => condsWithin_of_noZ (addS_noZ s.cfg s.fcsr x y)
    exact resultOfTwo_keepsToPage htraps fun _ _ => condsWithin_pairUp (h _ _) (h _ _)
  | mulrPs =>
    have h := fun x y => condsWithin_of_noZ (mulS_noZ s.cfg s.fcsr x y)
    exact resultOfTwo_keepsToPage htraps fun _ _ => condsWithin_pairUp (h _ _) (h _ _)
  | cvtPsPw =>
    have h := condsWithin_convertWS s.cfg s.fcsr
    exact resultOfOne_keepsToPage htraps fun _ => condsWithin_pairUp (h _) (h _)
  | cvtPwPs =>
    have h := condsWithin_convertSW s.fcsr
    exact resultOfOne_keepsToPage htraps fun _ => condsWithin_pairUp (h _) (h _)
  | recip1S | recip1D | recip1Ps | rsqrt1S | rsqrt1D | rsqrt1Ps =>
    exact resultOfOne_keepsToPage htraps fun _ => condsWithin_all _
  | recip2S | recip2D | recip2Ps =>
    exact resultOfTwo_keepsToPage htraps (condsWithin_liftTwo (fun _ _ => condsWithin_of_noZ (hr2S _ _))
      (fun _ _ => condsWithin_of_noZ (hr2D _ _)) _)
  | rsqrt2S | rsqrt2D | rsqrt2Ps =>
    exact resultOfTwo_keepsToPage htraps (condsWithin_liftTwo (fun _ _ => condsWithin_of_noZ (hq2S _ _))
      (fun _ _ => condsWithin_of_noZ (hq2D _ _)) _)
  | _ => exact compare_keepsToPage htraps rfl

end

/-- Settles O55: the outcome keeps to the page, be it a next state or the Floating Point exception. -/
theorem conditionsListedByPage : Obligations.ConditionsListedByPage := by
  intro i s htraps
  have hpage : KeepsToPage i s (exec i s) := exec_keepsToPage htraps
  refine ⟨fun t ht hb => ?next, fun r c hr hc => ?fault⟩
  case next =>
    rw [ht] at hpage
    cases hpage with
    | next _ h => exact h hb
  case fault =>
    rw [hr] at hpage
    cases hpage with
    | fault _ h => exact h c hc

end Sys2Proof.Machine
end

section
/-! MULR.PS (spec/45_mulr_ps.md): the completing branch of a reduction, and its instance for the product. -/

namespace Sys2Proof.Machine

/-- The completing branch of a reduction (R121, R140, R215), for any operation on the halves: the new pair, Cause and
Flags are all that it writes before it advances. -/
theorem reduce_disabled {op : Config → Fcsr → BitVec 32 → BitVec 32 → BitVec 32 × Conds} {i : Instr} {fd fs ft : FReg}
    {s : State} {upper lower : BitVec 32 × Conds} (h : ExecutesTwo i .ps fs ft s)
    (hupper : op s.cfg s.fcsr (lowerHalf (getFpr s fs).bits) (upperHalf (getFpr s fs).bits) = upper)
    (hlower : op s.cfg s.fcsr (lowerHalf (getFpr s ft).bits) (upperHalf (getFpr s ft).bits) = lower)
    (hdisabled : meetsEnables s.fcsr.enables (unionConds upper.2 lower.2) = false) :
    reduce op i fd fs ft s = .next (advance (setFpr fd ⟨.ps, upper.1 ++ lower.1⟩
      { s with fcsr :=
        { s.fcsr with
          cause := ⟨false, unionConds upper.2 lower.2⟩
          flags := unionConds s.fcsr.flags (unionConds upper.2 lower.2) } })) := by
  rw [reduce_executes h hupper hlower, signal_disabled hdisabled]

/-- Settles O22: MULR.PS is the reduction by `mulS`, and what it signals is disabled. -/
theorem mulrPsResult : Obligations.MulrPsResult := by
  intro fd fs ft s h lower upper c hdisabled
  have hexec : exec (.mulrPs fd fs ft) s = reduce mulS (.mulrPs fd fs ft) fd fs ft s := rfl
  exact hexec.trans (reduce_disabled h rfl rfl hdisabled)

end Sys2Proof.Machine
end

section
/-! The fixed cases of RECIP1 and RSQRT1 (R221, R241): both the open functions and the reference instance give a zero the
maximum normalized magnitude and an infinity a zero, with a sign that is left open. -/

namespace Sys2Proof.Machine

variable {L : Layout} {w : Nat}

theorem absValue_packBits (hw : 0 < w) (s : Bool) {n : Nat} (hn : n < 2 ^ (w - 1)) :
    absValue (packBits w s n) = packBits w false n := by
  refine pattern_ext hw ?_ ?_
  · rw [signBit_absValue, signBit_packBits hw false hn]
  · rw [fields_absValue, fields_packBits hw s hn, fields_packBits hw false hn]

theorem absValue_maxNormal (hL : L.Fits w) (s : Bool) : absValue (maxNormal L w s) = maxNormal L w false :=
  absValue_packBits hL.width_pos s (lt_of_le_of_lt (Nat.sub_le _ _) hL.infFields_lt)

theorem absValue_zeroOf (hw : 0 < w) (s : Bool) : absValue (zeroOf w s) = zeroOf w false :=
  absValue_packBits hw s (by positivity)

/-- The facts (a) and (b) of R221 and R241 about a function of one operand. -/
structure KeepsFixedCases (L : Layout) (g : BitVec w → BitVec w) : Prop where
  zero : ∀ x, isZero L x = true → absValue (g x) = maxNormal L w false
  inf : ∀ x, isInf L x = true → absValue (g x) = zeroOf w false

theorem Layout.Fits.isZero_of_isInf (hL : L.Fits w) {x : BitVec w} (h : isInf L x = true) : isZero L x = false := by
  have hpos := hL.infFields_pos
  rw [isInf_iff hL] at h
  rw [← Bool.not_eq_true, isZero_iff hL]
  omega

theorem Layout.Fits.isNaN_of_isInf (hL : L.Fits w) {x : BitVec w} (h : isInf L x = true) : isNaN L x = false := by
  rw [isInf_iff hL] at h
  rw [← Bool.not_eq_true, isNaN_iff hL, h]
  exact lt_irrefl _

theorem Layout.Fits.finite_of_isZero (hL : L.Fits w) {x : BitVec w} (h : isZero L x = true) :
    isNaN L x = false ∧ isInf L x = false := by
  rw [finite_iff hL, (isZero_iff hL x).mp h]
  exact hL.infFields_pos

/-- The open functions: whatever `g` is, the fixed cases are imposed on it. -/
theorem keepsFixedCases_fixedCases (hL : L.Fits w) (g : BitVec w → BitVec w) :
    KeepsFixedCases L fun x => fixedCases L x (g x) where
  zero x hx := by
    simp only [fixedCases, hx, if_true]
    exact absValue_maxNormal hL _
  inf x hx := by
    simp only [fixedCases, hL.isZero_of_isInf hx, hx, if_true]
    exact absValue_zeroOf hL.width_pos _

theorem keepsFixedCases_refRecip1 (hL : L.Fits w) (qnan : BitVec w) (c : Config) (f : Fcsr) :
    KeepsFixedCases L fun x => (refRecip1 L w qnan c f x).1 where
  zero x hx := by
    obtain ⟨hnan, hinf⟩ := hL.finite_of_isZero hx
    simp [refRecip1, isSNaN, hnan, hinf, hx, absValue_maxNormal hL]
  inf x hx := by
    simp [refRecip1, isSNaN, hL.isNaN_of_isInf hx, hx, absValue_zeroOf hL.width_pos]

theorem keepsFixedCases_refRsqrt1 (hL : L.Fits w) (qnan : BitVec w) (c : Config) (f : Fcsr) :
    KeepsFixedCases L fun x => (refRsqrt1 L w qnan c f x).1 where
  zero x hx := by
    obtain ⟨hnan, hinf⟩ := hL.finite_of_isZero hx
    simp [refRsqrt1, isSNaN, hnan, hinf, hx, absValue_maxNormal hL]
  inf x hx := by
    simp [refRsqrt1, isSNaN, hL.isNaN_of_isInf hx, hx, absValue_zeroOf hL.width_pos]

/-! The four functions, under either value of `numerics` -/

section
variable (c : Config) (f : Fcsr)

theorem keepsFixedCases_recip1S : KeepsFixedCases single fun x => (recip1S c f x).1 := by
  unfold recip1S
  cases c.numerics with
  | reference => exact keepsFixedCases_refRecip1 single_fits _ c f
  | implementation => exact keepsFixedCases_fixedCases single_fits _

theorem keepsFixedCases_recip1D : KeepsFixedCases double fun x => (recip1D c f x).1 := by
  unfold recip1D
  cases c.numerics with
  | reference => exact keepsFixedCases_refRecip1 double_fits _ c f
  | implementation => exact keepsFixedCases_fixedCases double_fits _

theorem keepsFixedCases_rsqrt1S : KeepsFixedCases single fun x => (rsqrt1S c f x).1 := by
  unfold rsqrt1S
  cases c.numerics with
  | reference => exact keepsFixedCases_refRsqrt1 single_fits _ c f
  | implementation => exact keepsFixedCases_fixedCases single_fits _

theorem keepsFixedCases_rsqrt1D : KeepsFixedCases double fun x => (rsqrt1D c f x).1 := by
  unfold rsqrt1D
  cases c.numerics with
  | reference => exact keepsFixedCases_refRsqrt1 double_fits _ c f
  | implementation => exact keepsFixedCases_fixedCases double_fits _

end

/-- Settles O56: the masks of the statement clear the sign. -/
theorem fixedCasesOfTheSeeds : Obligations.FixedCasesOfTheSeeds := by
  intro c f
  have hrecipS := keepsFixedCases_recip1S c f
  have hrsqrtS := keepsFixedCases_rsqrt1S c f
  have hrecipD := keepsFixedCases_recip1D c f
  have hrsqrtD := keepsFixedCases_rsqrt1D c f
  exact ⟨fun x hx => ⟨hrecipS.zero x hx, hrsqrtS.zero x hx⟩, fun x hx => ⟨hrecipS.inf x hx, hrsqrtS.inf x hx⟩,
    fun x hx => ⟨hrecipD.zero x hx, hrsqrtD.zero x hx⟩, fun x hx => ⟨hrecipD.inf x hx, hrsqrtD.inf x hx⟩⟩

end Sys2Proof.Machine
end

section
/-! The reference reciprocal (R221): a fraction rounded in the normalized range is off by at most one unit of its last
place, so its product with the inverse fraction is within 2^-fracBits of one. -/

namespace Sys2Proof.Machine

/-- A fraction and the multiple of 2^e it is rounded to are at most one step apart. -/
theorem abs_ratioSteps_sub_le (mode : RoundingMode) (s : Bool) (num den : Nat) (e : ℤ) :
    |(ratioSteps mode s num den e : ℚ) * 2 ^ e - (num : ℚ) / den| ≤ 2 ^ e := by
  obtain ⟨hlow, hhigh⟩ := roundChoice_bounds mode s (placeRatio num den e).1 (placeRatio num den e).2
  have hstep : (0 : ℚ) < 2 ^ e := by positivity
  have hfloor := Nat.floor_le (show (0 : ℚ) ≤ (num : ℚ) / den / 2 ^ e by positivity)
  have hceil := Nat.lt_floor_add_one ((num : ℚ) / den / 2 ^ e)
  rw [← placeRatio_fst] at hfloor hceil
  rw [le_div_iff₀ hstep] at hfloor
  rw [div_lt_iff₀ hstep] at hceil
  have hlow' : ((placeRatio num den e).1 : ℚ) * 2 ^ e ≤ (ratioSteps mode s num den e : ℚ) * 2 ^ e := by
    gcongr
    exact hlow
  have hhigh' : (ratioSteps mode s num den e : ℚ) * 2 ^ e ≤ ((placeRatio num den e).1 + 1 : ℚ) * 2 ^ e := by
    gcongr
    exact_mod_cast hhigh
  rw [abs_le]
  constructor <;> linarith

variable {L : Layout} {w : Nat}

theorem isNormal_iff (hL : L.Fits w) (x : BitVec w) :
    isNormal L x = true ↔ 2 ^ L.fracBits ≤ fields x ∧ fields x < infFields L := by
  have hpos : 0 < 2 ^ L.fracBits := by positivity
  rw [isNormal, Bool.and_eq_true, bne_iff_ne, bne_iff_ne, ne_eq, ne_eq, expField_eq_expMax_iff hL, not_le,
    expField_eq_fields hL, Nat.div_eq_zero_iff_lt hpos, not_lt]

section
variable {num den : Nat} (hnum : 0 < num) (hden : 0 < den) (hL : L.Fits w) (hlow : minExp L ≤ floorLog2 num den)
include hnum hden hlow

theorem le_roundedFields (mode : RoundingMode) (s : Bool) : 2 ^ L.fracBits ≤ roundedFields L mode s num den := by
  have hsteps := le_ratioSteps_normal hnum hden mode s L (max_le le_rfl hlow)
  exact hsteps.trans (Nat.le_add_left _ _)

include hL

/-- The relative error of a rounding in the normalized range. -/
theorem abs_fieldsValue_div_sub_one_le (mode : RoundingMode) (s : Bool) :
    |fieldsValue L (roundedFields L mode s num den) * ((den : ℚ) / num) - 1| ≤ 1 / 2 ^ L.fracBits := by
  have hpos : (0 : ℚ) < (num : ℚ) / den := by positivity
  have hexp : roundedExp L num den = floorLog2 num den := max_eq_left hlow
  have hlog : (2 : ℚ) ^ floorLog2 num den ≤ (num : ℚ) / den := by
    rw [two_zpow_le_iff hpos, floorLog2_eq_log hnum hden]
  have herror := abs_ratioSteps_sub_le mode s num den (floorLog2 num den - L.fracBits)
  rw [← hexp, ← fieldsValue_roundedFields hnum hden mode s hL, hexp] at herror
  rw [← inv_div, ← div_eq_mul_inv, div_sub_one hpos.ne', abs_div, abs_of_pos hpos, div_le_iff₀ hpos]
  calc |fieldsValue L (roundedFields L mode s num den) - (num : ℚ) / den|
      ≤ 2 ^ (floorLog2 num den - L.fracBits) := herror
    _ = 1 / 2 ^ L.fracBits * 2 ^ floorLog2 num den := by
      rw [zpow_sub₀ two_ne_zero, zpow_natCast, div_mul_eq_mul_div, one_mul]
    _ ≤ 1 / 2 ^ L.fracBits * ((num : ℚ) / den) := by gcongr

end

/-! The reciprocal of a normalized value -/

theorem isZero_of_isNormal (hL : L.Fits w) {x : BitVec w} (hx : isNormal L x = true) : isZero L x = false := by
  obtain ⟨hlow, -⟩ := (isNormal_iff hL x).mp hx
  exact (fields_pos_iff hL x).mp (lt_of_lt_of_le (by positivity) hlow)

/-- The class of a normalized value excludes the others. -/
theorem refRecip1_normal (hL : L.Fits w) {x : BitVec w} (hx : isNormal L x = true) (qnan : BitVec w) (c : Config)
    (f : Fcsr) : (refRecip1 L w qnan c f x).1 = (roundRatio L w c f (signBit x) (unitsPerOne L) (magnitude L x)).bits := by
  obtain ⟨hlow, hhigh⟩ := (isNormal_iff hL x).mp hx
  obtain ⟨hnan, hinf⟩ := (finite_iff hL x).mpr hhigh
  have hdenorm : isDenorm L x = false := by
    rw [← Bool.not_eq_true, isDenorm_iff hL]
    omega
  simp [refRecip1, isSNaN, hnan, hinf, isZero_of_isNormal hL hx, hdenorm]

theorem magnitude_pos_of_isNormal (hL : L.Fits w) {x : BitVec w} (hx : isNormal L x = true) : 0 < magnitude L x :=
  magnitude_pos hL (isZero_of_isNormal hL hx)

theorem abs_one_div_fpValue (hL : L.Fits w) (x : BitVec w) :
    |1 / fpValue L x| = (unitsPerOne L : ℚ) / (magnitude L x : ℚ) := by
  rw [abs_div, abs_one, fpValue_eq_ratio hL, abs_signUnit_mul, abs_of_nonneg (by positivity), one_div_div]

/-- No normalized value is so small that its reciprocal overflows: only the lower end of the normalized range has to be
asked of it. -/
theorem floorLog2_recip_lt_bias (hL : L.Fits w) {x : BitVec w} (hx : isNormal L x = true) :
    floorLog2 (unitsPerOne L) (magnitude L x) < bias L := by
  have hnum := unitsPerOne_nat_pos L
  have hden := magnitude_pos_of_isNormal hL hx
  have hmin : (2 : ℚ) ^ minExp L ≤ (magnitude L x : ℚ) / unitsPerOne L := by
    rw [magnitude_eq_fields hL, ← fieldsValue, ← fieldsValue_normal hL, ← not_lt, fieldsValue_lt_iff, not_lt]
    exact ((isNormal_iff hL x).mp hx).1
  rw [floorLog2_eq_log hnum hden, ← lt_two_zpow_iff (by positivity)]
  calc (unitsPerOne L : ℚ) / magnitude L x = ((magnitude L x : ℚ) / unitsPerOne L)⁻¹ := (inv_div _ _).symm
    _ ≤ ((2 : ℚ) ^ minExp L)⁻¹ := inv_anti₀ (by positivity) hmin
    _ = 2 ^ ((bias L : ℤ) - 1) := by rw [← zpow_neg, minExp, neg_sub]
    _ < 2 ^ (bias L : ℤ) := zpow_lt_zpow_right₀ one_lt_two (sub_one_lt _)

/-- In every rounding mode: R221's claim about its reference instance. -/
theorem recip1Accurate_refRecip1 (hL : L.Fits w) (qnan : BitVec w) (c : Config) (f : Fcsr) :
    Recip1Accurate L (fun x => (refRecip1 L w qnan c f x).1) L.fracBits := by
  intro x hx hrange
  have hnum := unitsPerOne_nat_pos L
  have hden := magnitude_pos_of_isNormal hL hx
  have hlow : minExp L ≤ floorLog2 (unitsPerOne L) (magnitude L x) := by
    rw [floorLog2_eq_log hnum hden, ← two_zpow_le_iff (by positivity), ← abs_one_div_fpValue hL]
    exact hrange.1
  have hfinite := roundedFields_lt_infFields hL (mode := f.rm) (s := signBit x) hnum hden (floorLog2_recip_lt_bias hL hx)
  have hlt := hfinite.trans hL.infFields_lt
  have hbits : (refRecip1 L w qnan c f x).1 =
      packBits w (signBit x) (roundedFields L f.rm (signBit x) (unitsPerOne L) (magnitude L x)) := by
    rw [refRecip1_normal hL hx, roundRatio_finite hfinite]
  have hsign : (signUnit (signBit x) : ℚ) * signUnit (signBit x) = 1 := by
    cases signBit x <;> norm_num
  beta_reduce
  rw [hbits]
  refine ⟨?normal, signBit_packBits hL.width_pos _ hlt, ?error⟩
  case normal =>
    rw [isNormal_iff hL, fields_packBits hL.width_pos _ hlt]
    exact ⟨le_roundedFields hnum hden hlow _ _, hfinite⟩
  case error =>
    rw [fpValue_packBits hL _ hlt, fpValue_eq_ratio hL, mul_mul_mul_comm, hsign, one_mul]
    exact abs_fieldsValue_div_sub_one_le hnum hden hL hlow _ _

/-- Settles O57: `recip1Accurate_refRecip1` for both formats. -/
theorem referenceReciprocalAccuracy : Obligations.ReferenceReciprocalAccuracy := by
  intro c f hreference
  have hS : (fun x => (recip1S c f x).1) = fun x => (refRecip1 single 32 (qnanDefaultS c) c f x).1 := by
    simp only [recip1S, hreference]
  have hD : (fun x => (recip1D c f x).1) = fun x => (refRecip1 double 64 (qnanDefaultD c) c f x).1 := by
    simp only [recip1D, hreference]
  rw [hS, hD]
  exact ⟨recip1Accurate_refRecip1 single_fits _ c f, recip1Accurate_refRecip1 double_fits _ c f⟩

end Sys2Proof.Machine
end

section
/-! RECIP1 and RECIP2 where they execute (spec/46_recip.md R220, R225): a function lifted to the three formats signals its
conditions and stores its value, whatever the function is (R121, R125). -/

namespace Sys2Proof.Machine

/-- The free upper half counts as a draw (R125). -/
theorem storeFpr_single (r : FReg) (v : BitVec 32) (s : State) : storeFpr r .s (0#32 ++ v) s =
    { s with fpr := s.fpr.set r.toNat ⟨.s, Config.draw s.draws ++ v⟩ r.isLt, draws := s.draws + 1 } := by
  have hv : (0#32 ++ v).extractLsb' 0 32 = v := BitVec.extractLsb'_append_eq_right
  rw [storeFpr, hv]
  rfl

section
variable {fS : BitVec 32 → BitVec 32 × Conds} {fD : BitVec 64 → BitVec 64 × Conds} {f : InstrFmt} {i : Instr}
  {fd fs : FReg} {s : State} {r : BitVec 64 × Conds}

/-- A function of one operand that executes and signals nothing enabled stores its value and its conditions. -/
theorem withOne_lift_disabled (h : ExecutesOne i (operandFmt f) fs s) {free : State → State}
    (hr : liftOne fS fD f (operandBits s fs (operandFmt f)) = r) (hdisabled : meetsEnables s.fcsr.enables r.2 = false) :
    (withOne i (operandFmt f) fs free s fun x =>
        signal (causeOf (liftOne fS fD f x).2) (storeFpr fd (operandFmt f) (liftOne fS fD f x).1) s) =
      .next (advance (storeFpr fd (operandFmt f) r.1
        { s with fcsr := { s.fcsr with cause := ⟨false, r.2⟩, flags := unionConds s.fcsr.flags r.2 } })) := by
  rw [withOne_executes h, hr, signal_disabled hdisabled]

theorem liftOne_single (s : State) (fs : FReg) : liftOne fS fD .s (operandBits s fs .s) =
    (0#32 ++ (fS ((getFpr s fs).bits.extractLsb' 0 32)).1, (fS ((getFpr s fs).bits.extractLsb' 0 32)).2) := by
  rw [liftOne, lowerHalf_operandBits_s]

end

section
variable {fS : BitVec 32 → BitVec 32 → BitVec 32 × Conds} {fD : BitVec 64 → BitVec 64 → BitVec 64 × Conds}
  {f : InstrFmt} {i : Instr} {fd fs ft : FReg} {s : State} {r : BitVec 64 × Conds}

/-- The same for a function of two operands. -/
theorem withTwo_lift_disabled (h : ExecutesTwo i (operandFmt f) fs ft s) {free : State → State}
    (hr : liftTwo fS fD f (operandBits s fs (operandFmt f)) (operandBits s ft (operandFmt f)) = r)
    (hdisabled : meetsEnables s.fcsr.enables r.2 = false) :
    (withTwo i (operandFmt f) fs ft free s fun x y =>
        signal (causeOf (liftTwo fS fD f x y).2) (storeFpr fd (operandFmt f) (liftTwo fS fD f x y).1) s) =
      .next (advance (storeFpr fd (operandFmt f) r.1
        { s with fcsr := { s.fcsr with cause := ⟨false, r.2⟩, flags := unionConds s.fcsr.flags r.2 } })) := by
  rw [withTwo_executes h, hr, signal_disabled hdisabled]

theorem liftTwo_single (s : State) (fs ft : FReg) : liftTwo fS fD .s (operandBits s fs .s) (operandBits s ft .s) =
    (0#32 ++ (fS ((getFpr s fs).bits.extractLsb' 0 32) ((getFpr s ft).bits.extractLsb' 0 32)).1,
      (fS ((getFpr s fs).bits.extractLsb' 0 32) ((getFpr s ft).bits.extractLsb' 0 32)).2) := by
  rw [liftTwo, lowerHalf_operandBits_s, lowerHalf_operandBits_s]

end

/-- Settles O30: each form is the lifted function in its format, and what it signals is disabled. -/
theorem recipOneResult : Obligations.RecipOneResult := by
  refine fun fd fs s => ⟨?single, ?double, ?paired⟩
  case single =>
    intro h r hdisabled
    have hexec := (exec_recip1Instr .s fd fs s).trans
      (withOne_lift_disabled (f := .s) h (liftOne_single s fs) hdisabled)
    exact hexec.trans (congrArg (Host.Outcome.next ∘ advance) (storeFpr_single fd r.1 _))
  case double =>
    intro h r hdisabled
    exact (exec_recip1Instr .d fd fs s).trans (withOne_lift_disabled (f := .d) h rfl hdisabled)
  case paired =>
    intro h lower upper c hdisabled
    exact (exec_recip1Instr .ps fd fs s).trans
      (withOne_lift_disabled (f := .ps) (r := pairUp upper lower) h rfl hdisabled)

/-- Settles O31 in the same way, with two operands. -/
theorem recipTwoResult : Obligations.RecipTwoResult := by
  refine fun fd fs ft s => ⟨?single, ?double, ?paired⟩
  case single =>
    intro h r hdisabled
    have hexec := (exec_recip2Instr .s fd fs ft s).trans
      (withTwo_lift_disabled (f := .s) h (liftTwo_single s fs ft) hdisabled)
    exact hexec.trans (congrArg (Host.Outcome.next ∘ advance) (storeFpr_single fd r.1 _))
  case double =>
    intro h r hdisabled
    exact (exec_recip2Instr .d fd fs ft s).trans (withTwo_lift_disabled (f := .d) h rfl hdisabled)
  case paired =>
    intro h lower upper c hdisabled
    exact (exec_recip2Instr .ps fd fs ft s).trans
      (withTwo_lift_disabled (f := .ps) (r := pairUp upper lower) h rfl hdisabled)

end Sys2Proof.Machine
end

section
/-! RSQRT1 and RSQRT2 where they execute (spec/47_rsqrt.md R240, R245): they lift a function to the three formats as RECIP1
and RECIP2 do. -/

namespace Sys2Proof.Machine

section
variable {f : InstrFmt} {fd fs ft : FReg} {s : State} {r : BitVec 64 × Conds}

/-- RSQRT1 in any format, where it signals nothing enabled (R121, R240). -/
theorem exec_rsqrt1_disabled (h : ExecutesOne (rsqrt1Instr f fd fs) (operandFmt f) fs s)
    (hr : liftOne (rsqrt1S s.cfg s.fcsr) (rsqrt1D s.cfg s.fcsr) f (operandBits s fs (operandFmt f)) = r)
    (hdisabled : meetsEnables s.fcsr.enables r.2 = false) :
    exec (rsqrt1Instr f fd fs) s = .next (advance (storeFpr fd (operandFmt f) r.1
      { s with fcsr := { s.fcsr with cause := ⟨false, r.2⟩, flags := unionConds s.fcsr.flags r.2 } })) :=
  (exec_rsqrt1Instr f fd fs s).trans (withOne_lift_disabled h hr hdisabled)

/-- RSQRT2 in any format, where it signals nothing enabled (R121, R245). -/
theorem exec_rsqrt2_disabled (h : ExecutesTwo (rsqrt2Instr f fd fs ft) (operandFmt f) fs ft s)
    (hr : liftTwo (rsqrt2S s.cfg s.fcsr) (rsqrt2D s.cfg s.fcsr) f (operandBits s fs (operandFmt f))
      (operandBits s ft (operandFmt f)) = r)
    (hdisabled : meetsEnables s.fcsr.enables r.2 = false) :
    exec (rsqrt2Instr f fd fs ft) s = .next (advance (storeFpr fd (operandFmt f) r.1
      { s with fcsr := { s.fcsr with cause := ⟨false, r.2⟩, flags := unionConds s.fcsr.flags r.2 } })) :=
  (exec_rsqrt2Instr f fd fs ft s).trans (withTwo_lift_disabled h hr hdisabled)

end

/-- Settles O32: the value of the lifted function is stored; an S result has a free upper half (R125). -/
theorem rsqrtOneResult : Obligations.RsqrtOneResult := by
  refine fun fd fs s => ⟨?single, ?double, ?paired⟩
  case single =>
    intro h r hdisabled
    have hexec := exec_rsqrt1_disabled (f := .s) h (liftOne_single s fs) hdisabled
    exact hexec.trans (congrArg (Host.Outcome.next ∘ advance) (storeFpr_single fd r.1 _))
  case double =>
    intro h r hdisabled
    exact exec_rsqrt1_disabled (f := .d) h rfl hdisabled
  case paired =>
    intro h lower upper c hdisabled
    exact exec_rsqrt1_disabled (f := .ps) (r := pairUp upper lower) h rfl hdisabled

/-- Settles O33 in the same way, with two operands. -/
theorem rsqrtTwoResult : Obligations.RsqrtTwoResult := by
  refine fun fd fs ft s => ⟨?single, ?double, ?paired⟩
  case single =>
    intro h r hdisabled
    have hexec := exec_rsqrt2_disabled (f := .s) h (liftTwo_single s fs ft) hdisabled
    exact hexec.trans (congrArg (Host.Outcome.next ∘ advance) (storeFpr_single fd r.1 _))
  case double =>
    intro h r hdisabled
    exact exec_rsqrt2_disabled (f := .d) h rfl hdisabled
  case paired =>
    intro h lower upper c hdisabled
    exact exec_rsqrt2_disabled (f := .ps) (r := pairUp upper lower) h rfl hdisabled

end Sys2Proof.Machine
end

section
/-! What an exception records and what it enters (spec/60_exceptions.md R273 to R279): the record of a step that ends the
run, and `raise` under either value of `cfg.traps`. -/

namespace Sys2Proof.Machine

/-! The record of a step -/

/-- A word raises Coprocessor Unusable before its refusal, or is an instruction. -/
theorem runWord_fault {w : Word} {s : State} {f : Fault} (h : runWord w s = .fault f) : Records s f := by
  cases hd : decode w with
  | instr i =>
    rw [runWord_instr hd] at h
    exact exec_fault h
  | reject r =>
    rw [runWord_reject hd] at h
    split at h
    · obtain ⟨-, rfl⟩ := raise_fault h
      exact .unusable
    · cases h

/-- Everything a step that ends the run by a fault can have been. -/
theorem step_fault {s : State} {f : Fault} (h : step s = .fault f) :
    f = .final ∨ f = .stuck ∨ f = .exception (faultRecord (.addressErrorFetch s.pc) s) ∨ Records s f := by
  cases hfinal : isFinal s with
  | true =>
    cases (step_final hfinal).symm.trans h
    exact .inl rfl
  | false =>
    cases haligned : wordAligned s.pc with
    | false =>
      rw [step_misaligned hfinal haligned] at h
      obtain ⟨-, hf⟩ := raise_fault h
      exact .inr (.inr (.inl hf))
    | true =>
      cases hword : fetchWord s s.pc with
      | none =>
        cases (step_stuck hfinal haligned hword).symm.trans h
        exact .inr (.inl rfl)
      | some w =>
        rw [step_of_fetches ⟨hfinal, haligned, hword⟩] at h
        exact .inr (.inr (.inr (runWord_fault h)))

/-- Settles O45: the exceptions of `step_fault`, each recorded on the state as it was but for Cause. -/
theorem faultRecordIsPrecise : Obligations.FaultRecordIsPrecise := by
  intro s r h
  rcases step_fault h with hf | hf | hf | hrec
  · cases hf
  · cases hf
  · cases hf
    exact ⟨rfl, rfl, rfl, nofun, fun _ => rfl, nofun, fun a ha => by cases ha; rfl⟩
  · cases hrec with
    | unusable => exact ⟨rfl, rfl, rfl, nofun, fun _ => rfl, fun n hn => by cases hn; rfl, nofun⟩
    | reserved => exact ⟨rfl, rfl, rfl, nofun, fun _ => rfl, nofun, nofun⟩
    | floatingPoint c =>
      exact ⟨rfl, rfl, rfl, fun c' hc => by cases hc; rfl, fun hne => absurd rfl (hne c), nofun, nofun⟩

/-! Raising an exception -/

section
variable {e : Exception} {s : State}

theorem raise_terminal (h : s.cfg.traps = .terminal) : raise e s = .fault (.exception (faultRecord e s)) := by
  simp only [raise, h]

theorem raise_architectural (h : s.cfg.traps = .architectural) : raise e s = .next (enterException e s) := by
  simp only [raise, h]

/-- The two general vectors of R276, each as one address. -/
theorem exceptionVector_eq (g : GprLen) (bev : Bool) : exceptionVector g bev =
    wrapAddr g (if bev then 0xFFFFFFFFBFC00380#64 else 0xFFFFFFFF80000180#64) := by
  cases bev <;> rfl

theorem cp0OnEntry_of_not_exl (h : s.cp0.exl = false) :
    (cp0OnEntry e s).epc = resumeAddr s ∧ (cp0OnEntry e s).bd = s.ds.isSome := by
  simp [cp0OnEntry, h]

theorem cp0OnEntry_of_exl (h : s.cp0.exl = true) :
    (cp0OnEntry e s).epc = s.cp0.epc ∧ (cp0OnEntry e s).bd = s.cp0.bd := by
  simp [cp0OnEntry, h]

end

/-- Settles O46: the record under terminal exceptions, and under architectural ones the entry, whose CP0 registers are
`cp0OnEntry`. -/
theorem raisedExceptionIsRecordedOrEntered : Obligations.RaisedExceptionIsRecordedOrEntered := by
  refine fun e s => ⟨fun hterminal => raise_terminal hterminal, fun harch =>
    ⟨enterException e s, raise_architectural harch, rfl, exceptionVector_eq _ _, rfl, rfl, cp0OnEntry_of_not_exl,
      cp0OnEntry_of_exl, ?unusable, ?reserved, ?floatingPoint, ?addressError, rfl⟩⟩
  case unusable =>
    rintro n rfl
    exact ⟨rfl, rfl, rfl⟩
  case reserved =>
    rintro rfl
    exact ⟨rfl, rfl, rfl⟩
  case floatingPoint =>
    rintro c rfl
    exact ⟨rfl, rfl, rfl⟩
  case addressError =>
    rintro a rfl
    exact ⟨rfl, rfl, rfl⟩

end Sys2Proof.Machine
end

section
/-! A sum never underflows untrapped (spec/60_exceptions.md R269): it is a whole number of the smallest denormalized units,
the last place of a tiny result is one such unit, and so a tiny sum is exact. -/

namespace Sys2Proof.Machine

variable {L : Layout} {w : Nat}

theorem placeRatio_exact_of_whole {num den k : Nat} {e : ℤ} (hden : 0 < den) (h : (num : ℚ) / den / 2 ^ e = k) :
    (placeRatio num den e).2 = .zero := by
  have hpos : (0 : ℚ) < (scaled num den e).2 := mod_cast scaled_pos num hden e
  rw [← scaled_ratio, div_eq_iff hpos.ne'] at h
  have hmultiple : (scaled num den e).1 = k * (scaled num den e).2 := mod_cast h
  rw [placeRatio, remainderOf_eq_zero_iff, hmultiple]
  exact Nat.mul_mod_left _ _

/-- A whole number of units below the normalized range is a multiple of its last place, the unit. -/
theorem inexactRatio_units (hL : L.Fits w) {num : Nat} (h : floorLog2 num (unitsPerOne L) < minExp L) :
    inexactRatio L num (unitsPerOne L) = false := by
  have hunit : (unitsPerOne L : ℚ) * 2 ^ (minExp L - L.fracBits) = 1 := by
    rw [unitsPerOne_eq_zpow hL, ← zpow_add₀ two_ne_zero, sub_add_sub_cancel, sub_self, zpow_zero]
  have hexp : roundedExp L num (unitsPerOne L) = minExp L := max_eq_right h.le
  have hwhole : (num : ℚ) / unitsPerOne L / 2 ^ (minExp L - L.fracBits) = num := by rw [div_div, hunit, div_one]
  rw [inexactRatio, hexp, placeRatio_exact_of_whole (unitsPerOne_nat_pos L) hwhole]
  rfl

theorem roundRatio_units_noU (hL : L.Fits w) (c : Config) {f : Fcsr} (s : Bool) (num : Nat) (hu : f.enables.u = false) :
    (roundRatio L w c f s num (unitsPerOne L)).conds.u = false := by
  rcases le_or_gt (infFields L) (roundedFields L f.rm s num (unitsPerOne L)) with hover | hfinite
  · rw [roundRatio_overflow hover]
    rfl
  · rw [roundRatio_finite hfinite, hu, Bool.or_false]
    rcases lt_or_ge (floorLog2 num (unitsPerOne L)) (minExp L) with hsmall | hnormal
    · rw [inexactRatio_units hL hsmall, Bool.and_false]
      rfl
    · rw [tinyRatio_eq_false hnormal, Bool.false_and]
      rfl

theorem nanOperands_noU (c : Config) (op : ArithOp) (a b : BitVec 32) : (nanOperands c op a b).2.u = false := by
  unfold nanOperands
  split <;> rfl

/-- Settles O53: only a sum of finite operands is rounded, and the reference instance delivers it as it is. -/
theorem additionNeverUnderflowsUntrapped : Obligations.AdditionNeverUnderflowsUntrapped := by
  intro c f a b hreference hu
  by_cases hnan : isNaN single a = true ∨ isNaN single b = true
  · rw [addS_nan hnan]
    exact nanOperands_noU ..
  simp only [not_or, Bool.not_eq_true] at hnan
  obtain ⟨ha, hb⟩ := hnan
  cases hia : isInf single a with
  | true =>
    by_cases hs : isInf single b = true → signBit a = signBit b
    · rw [addS_inf_left ha hb hia hs]
      rfl
    · obtain ⟨hib, hopposite⟩ := Classical.not_imp.mp hs
      rw [addS_inf_opposite ha hb hia hib hopposite]
      rfl
  | false =>
    cases hib : isInf single b with
    | true =>
      rw [addS_inf_right ha hb hia hib]
      rfl
    | false =>
      rw [addS_finite ha hb hia hib]
      split
      · rfl
      · rw [roundFlush, flushTiny_snd (.inl hreference)]
        exact roundRatio_units_noU single_fits c _ _ hu

end Sys2Proof.Machine
end
